-- ==== Sys2Proof/Word.lean ====
section
/-! DEFINITION. The machine's words and their plainest names. Nothing here computes anything a rule of spec/ decides. -/

namespace Sys2Proof

/-- A byte of the stream (spec/20_memory.md R50). -/
abbrev Byte := BitVec 8

/-- A host register's 32-bit value (spec/10_state.md R21). -/
abbrev Word := BitVec 32

/-- One slot of the block buffer or of RE's scratch: 32 bits, two's complement (spec/10_state.md R31, R37). -/
abbrev Slot := BitVec 32

/-- One 16-bit element of the output space (spec/20_memory.md R59). -/
abbrev Sample := BitVec 16

end Sys2Proof
end

