-- ==== Sys2Proof/Config.lean ====
section
/-! DEFINITION. The parameters of spec/00_scope.md R7, each at the value R7 says this hardware takes
(notes/assumptions/8.md), and the model's one free value. -/

namespace Sys2Proof.Config

/-- The container's signature, an open parameter; R7's default is from general knowledge
(spec/93_implementation_defined.md GK1). PRESUMED, unsafe: notes/assumptions/7.md. -/
abbrev MAGIC : Nat := 0x01032897

/-- Header length; the payload starts at this byte (R7). -/
abbrev HDR_BYTES : Nat := 14

/-- Least supported `levels` (R7). -/
abbrev LEVELS_MIN : Nat := 1

/-- Greatest supported `levels` (R7). -/
abbrev LEVELS_MAX : Nat := 16

/-- Greatest `subblocks`, forced by the 4-bit header field (R7). -/
abbrev SUBBLOCKS_MAX : Nat := 15

/-- Capacity of the block buffer in slots (R7). -/
abbrev BUF_SLOTS : Nat := 983040

/-- Least code width in bits (R7). -/
abbrev W_MIN : Nat := 2

/-- Greatest code width in bits (R7). -/
abbrev W_MAX : Nat := 16

/-- Code width of every live level after UINIT or URESET (R7). -/
abbrev W_INIT : Nat := 4

/-- What a buffer slot that nothing has written since reset holds: any value (spec/10_state.md R39,
spec/93_implementation_defined.md U6). The first argument counts the resets of the buffer, the second is the
slot's index, so that an unwritten slot holds one value until the next reset. A FREE VALUE: it has no body and
no proof can know it (DESIGN CHOICE, safe: notes/assumptions/3.md). -/
opaque freeSlot : Nat → Nat → Slot

end Sys2Proof.Config
end

