-- ==== Sys2Proof/Machine/State.lean ====
section
/-! DEFINITION. The machine's state: every register and file of spec/10_state.md R20, the parameters of a run that the
model carries (R41), and the model's own bookkeeping; the reasons a step can stop; the state right after reset (R39). -/

namespace Sys2Proof.Machine

/-- STATUS.CAUSE: why UFAIL is set (spec/10_state.md R23). -/
inductive Cause where
  | none | endOfStream | reservedCode
  deriving DecidableEq, Repr

/-- STATUS.ERR: the outcome of the last command (spec/60_exceptions.md R180). -/
inductive ErrCode where
  | ok | format | init | io | illegalCmd | badState | badArg | faulted
  deriving DecidableEq, Repr

/-- STATUS.FCODE: the fatal code latched at fault entry (spec/10_state.md R23). -/
inductive FatalCode where
  | none | format | init | io
  deriving DecidableEq, Repr

/-- STATUS.FSUB: which unit's init failed (spec/10_state.md R23). -/
inductive SubUnit where
  | none | bu | re
  deriving DecidableEq, Repr

/-- The fields of STATUS (spec/10_state.md R23). The reserved bits hold nothing, and the codes that R23 says never
occur have no constructor; the host sees the word `Status.word` of Machine/Flags.lean. -/
structure Status where
  opened : Bool
  uok : Bool
  dok : Bool
  ufail : Bool
  cause : Cause
  fault : Bool
  err : ErrCode
  fcode : FatalCode
  fsub : SubUnit
  deriving DecidableEq, Repr

/-- A fatal error of the block (spec/60_exceptions.md R180 to R183), which `raise` takes. -/
inductive FatalError where
  | format
  | initialization (unit : SubUnit)
  | io
  deriving DecidableEq, Repr

/-- What ReadCode returns (spec/41_unpacker.md R116). -/
inductive CodeResult where
  | ok (v : Int)
  | eos
  | rsv
  deriving DecidableEq, Repr

/-- BU's code port. The spec runs ReadCode inside GETBLK, REFILL and READ only, each atomic (spec/20_memory.md R64), so
the port is idle between commands; `wanted` is the moment inside GetOneBlock at which a code is wanted, and
`returned` holds what ReadCode answered there. The MODEL's own: notes/assumptions/6.md. -/
inductive CodePort where
  | idle
  | wanted
  | returned (r : CodeResult)
  deriving DecidableEq, Repr

/-- Whether a command has run since the last reset, and whether the stream was changed after one had
(spec/20_memory.md R55, spec/70_reset_and_hazards.md R211). The MODEL's own: notes/assumptions/5.md. -/
inductive Session where
  | fresh | live | changed
  deriving DecidableEq, Repr

/-- An action from outside the block (spec/70_reset_and_hazards.md R214, R202, R200): a register access, with its byte
offset and its width in bits; the platform's attaching of a stream; hardware reset. -/
inductive HostAction where
  | read (offset width : Nat)
  | write (offset width : Nat) (value : Word)
  | attach (bytes : List Byte)
  | hardwareReset
  deriving DecidableEq, Repr

/-- A host register (spec/10_state.md R21). -/
inductive Reg where
  | cmd | status | arg0 | arg1 | result
  | samples | channels | rate | levels | subblocks | blocksize
  | samplesLeft | samplesReady | rdptr | pos | size
  | bitbuf | bitcnt | lvlptr | bufidx | bufdata
  | ctx (i : Fin 16)
  | scr (i : Fin 16)
  deriving DecidableEq, Repr

/-- A sparse space of cells, in one canonical form: indices strictly rising (`Memory.wf`, Machine/Ops.lean). An
unlisted index is one that nothing has written, so no entry equals what an unlisted index reads as. -/
abbrev Memory (α : Type) := List (Nat × α)

/-- The state of one FADB instance and of what surrounds it. -/
structure State where
  /-- STATUS, R23. -/
  status : Status
  /-- ARG0, R24. -/
  arg0 : Word
  /-- ARG1, R24. -/
  arg1 : Word
  /-- RESULT, R25. -/
  result : Word
  /-- SAMPLES, R26. -/
  samples : Word
  /-- CHANNELS, R26. -/
  channels : BitVec 16
  /-- RATE, R26. -/
  rate : BitVec 16
  /-- LEVELS, R27. -/
  levels : BitVec 12
  /-- SUBBLOCKS, R27. -/
  subblocks : BitVec 4
  /-- SAMPLES_LEFT, R28. -/
  samplesLeft : Word
  /-- SAMPLES_READY, R28. -/
  samplesReady : Word
  /-- RDPTR, R29. -/
  rdptr : BitVec 20
  /-- POS, R30. -/
  pos : Word
  /-- BITBUF, R35. -/
  bitbuf : Word
  /-- BITCNT, R35. -/
  bitcnt : BitVec 5
  /-- LVLPTR, R34. -/
  lvlptr : BitVec 4
  /-- The context file, R33. -/
  ctx : Vector (BitVec 5) 16
  /-- RE's scratch file, R37. -/
  scr : Vector Slot 16
  /-- BUFIDX, R32. -/
  bufidx : BitVec 20
  /-- The block buffer's written slots, R31. -/
  buf : Memory Slot
  /-- The attached stream; SIZE is its length. A run's parameter, R41(a). -/
  stream : List Byte
  /-- The elements of OUT that READ has written, R59. A run's parameter, R41(c). -/
  out : Memory Sample
  /-- The MODEL's own: how often the buffer has been reset, the free value's argument (notes/assumptions/3.md). -/
  bufEpoch : Nat
  /-- The MODEL's own (notes/assumptions/5.md). -/
  session : Session
  /-- The MODEL's own (notes/assumptions/6.md). -/
  port : CodePort
  /-- The MODEL's own: the host's actions still to come, the next one first (notes/assumptions/2.md). -/
  actions : List HostAction
  /-- The MODEL's own: what the host's reads returned, oldest first (notes/assumptions/2.md). -/
  readLog : List Word
  deriving DecidableEq, Repr

/-- Why the machine stops. Every fatal error of the block is a next state (spec/60_exceptions.md R186), not a fault of
the model. Both faults arise only in states that spec/10_state.md R40 excludes, which no run reaches. -/
inductive Fault where
  /-- Raised where a code would be read while LEVELS, SUBBLOCKS, LVLPTR or a live context width is outside the
  range R40(c) and R115 presuppose. Safe: the model stops where the spec gives no meaning (notes/assumptions/11.md). -/
  | illegalContext
  /-- Raised where DECODE would run while DOK is set and the geometry is outside the range R40(d) presupposes.
  Safe, as above (notes/assumptions/11.md). -/
  | illegalGeometry
  deriving DecidableEq, Repr

/-- Why the model declines an action. -/
inductive Refusal where
  /-- Raised by exec's arms only, for an instruction with no meaning yet. Safe. -/
  | notModelled (mnemonic : String)
  /-- Raised by step for a command other than NOP and SRST after the platform changed the stream under a live instance:
  the spec gives such a run no meaning (spec/93_implementation_defined.md U13). Safe (notes/assumptions/5.md). -/
  | streamChangedWhileLive
  /-- Raised by step where the platform attaches a stream whose length the 32-bit SIZE cannot say
  (spec/10_state.md R30). Safe (notes/assumptions/1.md). -/
  | streamTooLong
  deriving DecidableEq, Repr

/-- What an instruction's meaning answers. -/
abbrev Out := Host.Outcome State Fault Refusal

/-- STATUS after reset: every field 0 (R39). -/
def Status.reset : Status where
  opened := false
  uok := false
  dok := false
  ufail := false
  cause := .none
  fault := false
  err := .ok
  fcode := .none
  fsub := .none

/-- The machine right after hardware reset (spec/10_state.md R39), with no stream attached and no host action pending
(DESIGN CHOICE: notes/assumptions/1.md, 2.md). -/
def State.reset : State where
  status := Status.reset
  arg0 := 0
  arg1 := 0
  result := 0
  samples := 0
  channels := 0
  rate := 0
  levels := 0
  subblocks := 0
  samplesLeft := 0
  samplesReady := 0
  rdptr := 0
  pos := 0
  bitbuf := 0
  bitcnt := 0
  lvlptr := 0
  ctx := Vector.replicate 16 0
  scr := Vector.replicate 16 0
  bufidx := 0
  buf := []
  stream := []
  out := []
  bufEpoch := 0
  session := .fresh
  port := .idle
  actions := []
  readLog := []

end Sys2Proof.Machine
end

