-- ==== Sys2Proof/Machine/Flags.lean ====
section
/-! DEFINITION. STATUS: its codes, the word the host reads, and the updates of its fields (spec/10_state.md R23, R38;
spec/60_exceptions.md R180). The block has no arithmetic condition codes (R38). -/

namespace Sys2Proof.Machine

/-- CAUSE as the host reads it (R23). -/
def Cause.bits : Cause → BitVec 2
  | .none => 0
  | .endOfStream => 1
  | .reservedCode => 2

/-- ERR as the host reads it (R23, R180). -/
def ErrCode.bits : ErrCode → BitVec 4
  | .ok => 0
  | .format => 1
  | .init => 2
  | .io => 3
  | .illegalCmd => 4
  | .badState => 5
  | .badArg => 6
  | .faulted => 7

/-- FCODE as the host reads it (R23). -/
def FatalCode.bits : FatalCode → BitVec 4
  | .none => 0
  | .format => 1
  | .init => 2
  | .io => 3

/-- FSUB as the host reads it (R23). -/
def SubUnit.bits : SubUnit → BitVec 2
  | .none => 0
  | .bu => 1
  | .re => 2

/-- The STATUS register as one word, bit 31 first (R23): bits 31:18 and bit 7 read 0. -/
def Status.word (t : Status) : Word :=
  0#14 ++ t.fsub.bits ++ t.fcode.bits ++ t.err.bits ++ 0#1 ++ BitVec.ofBool t.fault ++ t.cause.bits ++
    BitVec.ofBool t.ufail ++ BitVec.ofBool t.dok ++ BitVec.ofBool t.uok ++ BitVec.ofBool t.opened

/-- The code a fatal error leaves in ERR (R180, R186). -/
def FatalError.errCode : FatalError → ErrCode
  | .format => .format
  | .initialization _ => .init
  | .io => .io

/-- The code a fatal error leaves in FCODE (R186). -/
def FatalError.fatalCode : FatalError → FatalCode
  | .format => .format
  | .initialization _ => .init
  | .io => .io

/-- What a fatal error leaves in FSUB: the unit for an InitializationError, else none (R186). -/
def FatalError.subUnit : FatalError → SubUnit
  | .format => .none
  | .initialization unit => unit
  | .io => .none

/-- UOK, set by a successful and cleared by a failed UnpackerInit (R23, R112). -/
def State.setUok (s : State) (b : Bool) : State := { s with status := { s.status with uok := b } }

/-- DOK, set by a successful and cleared by a failed DecoderInit (R23, R132). -/
def State.setDok (s : State) (b : Bool) : State := { s with status := { s.status with dok := b } }

/-- OPENED, set when OPEN succeeds (R23, R100). -/
def State.setOpened (s : State) : State := { s with status := { s.status with opened := true } }

/-- UFAIL and CAUSE, set when ReadCode fails (R23, R122). -/
def State.failUnpacker (s : State) (c : Cause) : State :=
  { s with status := { s.status with ufail := true, cause := c } }

/-- UFAIL and CAUSE cleared (R23, R113). -/
def State.clearUfail (s : State) : State :=
  { s with status := { s.status with ufail := false, cause := .none } }

/-- UOK and DOK cleared by a geometry write (spec/44_system.md R174). -/
def State.clearInits (s : State) : State :=
  { s with status := { s.status with uok := false, dok := false } }

/-- The normal end of a command: `RESULT <- v`, `STATUS.ERR <- 0` (spec/00_scope.md R10). -/
def State.complete (s : State) (v : Word) : State :=
  { s with result := v, status := { s.status with err := .ok } }

/-- A refusal by the block: ERR and RESULT, nothing else (spec/60_exceptions.md R188). -/
def State.refuse (s : State) (code : ErrCode) : State :=
  { s with result := 0, status := { s.status with err := code } }

end Sys2Proof.Machine
end

