-- ==== Sys2Proof/Syntax.lean ====
section
/-! DEFINITION. The instructions: one constructor per row of spec/opcode_table.json, eleven commands
(spec/30_encoding.md R76) and the payload's code classes for every width (R82), with CODE.EOS (R121).
Also the form in which an instruction's bits reach a decoder. -/

namespace Sys2Proof

/-- An instruction. A command has no operand in its word (R78); a GROW, HOLD or SHRINK code carries its `w`-bit
field `u`, and a RSV code is the one pattern of its width (R81, R82). -/
inductive Instr where
  /-- NOP, R170. -/
  | nop
  /-- OPEN, R100. -/
  | openStream
  /-- UINIT, R112. -/
  | uinit
  /-- URESET, R114. -/
  | ureset
  /-- GETBLK, R122. -/
  | getblk
  /-- DINIT, R132. -/
  | dinit
  /-- DECODE, R133. -/
  | decode
  /-- REFILL, R152. -/
  | refill
  /-- READ, R153. -/
  | read
  /-- REWIND, R156. -/
  | rewind
  /-- SRST, R171. -/
  | srst
  | codeGrowW2 (u : BitVec 2)
  | codeHoldW2 (u : BitVec 2)
  | codeRsvW2
  | codeGrowW3 (u : BitVec 3)
  | codeHoldW3 (u : BitVec 3)
  | codeShrinkW3 (u : BitVec 3)
  | codeRsvW3
  | codeGrowW4 (u : BitVec 4)
  | codeHoldW4 (u : BitVec 4)
  | codeShrinkW4 (u : BitVec 4)
  | codeRsvW4
  | codeGrowW5 (u : BitVec 5)
  | codeHoldW5 (u : BitVec 5)
  | codeShrinkW5 (u : BitVec 5)
  | codeRsvW5
  | codeGrowW6 (u : BitVec 6)
  | codeHoldW6 (u : BitVec 6)
  | codeShrinkW6 (u : BitVec 6)
  | codeRsvW6
  | codeGrowW7 (u : BitVec 7)
  | codeHoldW7 (u : BitVec 7)
  | codeShrinkW7 (u : BitVec 7)
  | codeRsvW7
  | codeGrowW8 (u : BitVec 8)
  | codeHoldW8 (u : BitVec 8)
  | codeShrinkW8 (u : BitVec 8)
  | codeRsvW8
  | codeGrowW9 (u : BitVec 9)
  | codeHoldW9 (u : BitVec 9)
  | codeShrinkW9 (u : BitVec 9)
  | codeRsvW9
  | codeGrowW10 (u : BitVec 10)
  | codeHoldW10 (u : BitVec 10)
  | codeShrinkW10 (u : BitVec 10)
  | codeRsvW10
  | codeGrowW11 (u : BitVec 11)
  | codeHoldW11 (u : BitVec 11)
  | codeShrinkW11 (u : BitVec 11)
  | codeRsvW11
  | codeGrowW12 (u : BitVec 12)
  | codeHoldW12 (u : BitVec 12)
  | codeShrinkW12 (u : BitVec 12)
  | codeRsvW12
  | codeGrowW13 (u : BitVec 13)
  | codeHoldW13 (u : BitVec 13)
  | codeShrinkW13 (u : BitVec 13)
  | codeRsvW13
  | codeGrowW14 (u : BitVec 14)
  | codeHoldW14 (u : BitVec 14)
  | codeShrinkW14 (u : BitVec 14)
  | codeRsvW14
  | codeGrowW15 (u : BitVec 15)
  | codeHoldW15 (u : BitVec 15)
  | codeShrinkW15 (u : BitVec 15)
  | codeRsvW15
  | codeGrowW16 (u : BitVec 16)
  | codeHoldW16 (u : BitVec 16)
  | codeShrinkW16 (u : BitVec 16)
  | codeRsvW16
  /-- CODE.EOS, R121: a condition, not a bit pattern. -/
  | codeEos
  deriving DecidableEq, Repr

/-- The bits of one instruction as a decoder meets them: a word written to CMD (R75), a payload code with the width
the context gives it (R80: the width is not in the bits), or the condition that a bit is missing (R121). -/
inductive Encoding where
  | command (word : Word)
  | code (width : Nat) (u : Nat)
  | endOfStream
  deriving DecidableEq, Repr

/-- Why bits decode to no instruction. -/
inductive DecodeError where
  /-- A reserved opcode, or a word with any of bits 31:8 set (R77). -/
  | illegalCommand
  /-- A code width outside 2..16, which never arises (R89). -/
  | widthOutOfRange
  /-- A field that does not fit its width: no such bits exist. -/
  | fieldTooWide
  deriving DecidableEq, Repr

end Sys2Proof
end

