-- ==== Sys2Proof/WellFormed.lean ====
section
/-! DEFINITION. Well-formed instructions: a code's field lies in its class (spec/30_encoding.md R82, the conditions
on the magnitude m of the value). Commands, RSV codes and CODE.EOS have no operand and are always well formed. -/

namespace Sys2Proof

/-- The magnitude `m = |v|` of a code's value `v` (R81). -/
def codeMagnitude {w : Nat} (u : BitVec w) : Nat := u.toInt.natAbs

/-- R82's `hi(w)`. -/
def growBound (w : Nat) : Nat := 2 ^ (w - 2)

/-- R82's `lo(w)`: `2^(w-3)` for `w >= 3`, and 0 for `w = 2`. -/
def holdBound (w : Nat) : Nat := if w < 3 then 0 else 2 ^ (w - 3)

/-- The reserved pattern: bit `w-1` set, all others clear (R81). -/
def isReserved {w : Nat} (u : BitVec w) : Bool := u.toNat == 2 ^ (w - 1)

/-- Class GROW of R82. -/
def growField {w : Nat} (u : BitVec w) : Bool := !isReserved u && decide (growBound w ≤ codeMagnitude u)

/-- Class HOLD of R82. -/
def holdField {w : Nat} (u : BitVec w) : Bool :=
  !isReserved u && decide (holdBound w ≤ codeMagnitude u) && decide (codeMagnitude u < growBound w)

/-- Class SHRINK of R82. -/
def shrinkField {w : Nat} (u : BitVec w) : Bool := !isReserved u && decide (codeMagnitude u < holdBound w)

/-- The check on an instruction's operand. -/
def Instr.wf : Instr → Bool
  | .nop => true
  | .openStream => true
  | .uinit => true
  | .ureset => true
  | .getblk => true
  | .dinit => true
  | .decode => true
  | .refill => true
  | .read => true
  | .rewind => true
  | .srst => true
  | .codeGrowW2 u => growField u
  | .codeHoldW2 u => holdField u
  | .codeRsvW2 => true
  | .codeGrowW3 u => growField u
  | .codeHoldW3 u => holdField u
  | .codeShrinkW3 u => shrinkField u
  | .codeRsvW3 => true
  | .codeGrowW4 u => growField u
  | .codeHoldW4 u => holdField u
  | .codeShrinkW4 u => shrinkField u
  | .codeRsvW4 => true
  | .codeGrowW5 u => growField u
  | .codeHoldW5 u => holdField u
  | .codeShrinkW5 u => shrinkField u
  | .codeRsvW5 => true
  | .codeGrowW6 u => growField u
  | .codeHoldW6 u => holdField u
  | .codeShrinkW6 u => shrinkField u
  | .codeRsvW6 => true
  | .codeGrowW7 u => growField u
  | .codeHoldW7 u => holdField u
  | .codeShrinkW7 u => shrinkField u
  | .codeRsvW7 => true
  | .codeGrowW8 u => growField u
  | .codeHoldW8 u => holdField u
  | .codeShrinkW8 u => shrinkField u
  | .codeRsvW8 => true
  | .codeGrowW9 u => growField u
  | .codeHoldW9 u => holdField u
  | .codeShrinkW9 u => shrinkField u
  | .codeRsvW9 => true
  | .codeGrowW10 u => growField u
  | .codeHoldW10 u => holdField u
  | .codeShrinkW10 u => shrinkField u
  | .codeRsvW10 => true
  | .codeGrowW11 u => growField u
  | .codeHoldW11 u => holdField u
  | .codeShrinkW11 u => shrinkField u
  | .codeRsvW11 => true
  | .codeGrowW12 u => growField u
  | .codeHoldW12 u => holdField u
  | .codeShrinkW12 u => shrinkField u
  | .codeRsvW12 => true
  | .codeGrowW13 u => growField u
  | .codeHoldW13 u => holdField u
  | .codeShrinkW13 u => shrinkField u
  | .codeRsvW13 => true
  | .codeGrowW14 u => growField u
  | .codeHoldW14 u => holdField u
  | .codeShrinkW14 u => shrinkField u
  | .codeRsvW14 => true
  | .codeGrowW15 u => growField u
  | .codeHoldW15 u => holdField u
  | .codeShrinkW15 u => shrinkField u
  | .codeRsvW15 => true
  | .codeGrowW16 u => growField u
  | .codeHoldW16 u => holdField u
  | .codeShrinkW16 u => shrinkField u
  | .codeRsvW16 => true
  | .codeEos => true

end Sys2Proof
end

