-- ==== Sys2Proof/Decode.lean ====
section
/-! DEFINITION. The decoder of command words and payload codes (spec/30_encoding.md R75 to R77, R80 to R82, R88),
total and refusing by name, then the encoder, then the host's reading of a row of spec/opcode_table.json. The code
decoder follows the table's unsigned ranges; BU's own ReadCode (Machine/Unpacker.lean) follows the magnitudes of
spec/41_unpacker.md R116. -/

namespace Sys2Proof

/-- The command decoder: R88's comparison of the whole word with each `match`. -/
def decodeCommand (word : Word) : Except DecodeError Instr :=
  match word.toNat with
  | 0x00 => .ok .nop
  | 0x01 => .ok .openStream
  | 0x02 => .ok .uinit
  | 0x03 => .ok .ureset
  | 0x04 => .ok .getblk
  | 0x05 => .ok .dinit
  | 0x06 => .ok .decode
  | 0x07 => .ok .refill
  | 0x08 => .ok .read
  | 0x09 => .ok .rewind
  | 0x0F => .ok .srst
  | _ => .error .illegalCommand

/-- The four classes of a code (R82). -/
inductive CodeClass where
  | grow | hold | shrink | rsv
  deriving DecidableEq, Repr

/-- The class of the `w`-bit field `u`, by the unsigned ranges R82 gives (for `w = 2`: HOLD is 0, RSV is 2, GROW is
1 and 3). -/
def classOfField (w u : Nat) : CodeClass :=
  if u = 2 ^ (w - 1) then .rsv
  else if w < 3 then (if u = 0 then .hold else .grow)
  else
    let lo := 2 ^ (w - 3)
    let hi := 2 ^ (w - 2)
    if u < lo ∨ 2 ^ w - lo < u then .shrink
    else if u < hi ∨ 2 ^ w - hi < u then .hold
    else .grow

/-- The row of the table for a width and a class; there is no SHRINK row of width 2. -/
def codeRow (w u : Nat) : CodeClass → Except DecodeError Instr
  | .grow =>
    match w with
    | 2 => .ok (.codeGrowW2 (BitVec.ofNat 2 u))
    | 3 => .ok (.codeGrowW3 (BitVec.ofNat 3 u))
    | 4 => .ok (.codeGrowW4 (BitVec.ofNat 4 u))
    | 5 => .ok (.codeGrowW5 (BitVec.ofNat 5 u))
    | 6 => .ok (.codeGrowW6 (BitVec.ofNat 6 u))
    | 7 => .ok (.codeGrowW7 (BitVec.ofNat 7 u))
    | 8 => .ok (.codeGrowW8 (BitVec.ofNat 8 u))
    | 9 => .ok (.codeGrowW9 (BitVec.ofNat 9 u))
    | 10 => .ok (.codeGrowW10 (BitVec.ofNat 10 u))
    | 11 => .ok (.codeGrowW11 (BitVec.ofNat 11 u))
    | 12 => .ok (.codeGrowW12 (BitVec.ofNat 12 u))
    | 13 => .ok (.codeGrowW13 (BitVec.ofNat 13 u))
    | 14 => .ok (.codeGrowW14 (BitVec.ofNat 14 u))
    | 15 => .ok (.codeGrowW15 (BitVec.ofNat 15 u))
    | 16 => .ok (.codeGrowW16 (BitVec.ofNat 16 u))
    | _ => .error .widthOutOfRange
  | .hold =>
    match w with
    | 2 => .ok (.codeHoldW2 (BitVec.ofNat 2 u))
    | 3 => .ok (.codeHoldW3 (BitVec.ofNat 3 u))
    | 4 => .ok (.codeHoldW4 (BitVec.ofNat 4 u))
    | 5 => .ok (.codeHoldW5 (BitVec.ofNat 5 u))
    | 6 => .ok (.codeHoldW6 (BitVec.ofNat 6 u))
    | 7 => .ok (.codeHoldW7 (BitVec.ofNat 7 u))
    | 8 => .ok (.codeHoldW8 (BitVec.ofNat 8 u))
    | 9 => .ok (.codeHoldW9 (BitVec.ofNat 9 u))
    | 10 => .ok (.codeHoldW10 (BitVec.ofNat 10 u))
    | 11 => .ok (.codeHoldW11 (BitVec.ofNat 11 u))
    | 12 => .ok (.codeHoldW12 (BitVec.ofNat 12 u))
    | 13 => .ok (.codeHoldW13 (BitVec.ofNat 13 u))
    | 14 => .ok (.codeHoldW14 (BitVec.ofNat 14 u))
    | 15 => .ok (.codeHoldW15 (BitVec.ofNat 15 u))
    | 16 => .ok (.codeHoldW16 (BitVec.ofNat 16 u))
    | _ => .error .widthOutOfRange
  | .shrink =>
    match w with
    | 3 => .ok (.codeShrinkW3 (BitVec.ofNat 3 u))
    | 4 => .ok (.codeShrinkW4 (BitVec.ofNat 4 u))
    | 5 => .ok (.codeShrinkW5 (BitVec.ofNat 5 u))
    | 6 => .ok (.codeShrinkW6 (BitVec.ofNat 6 u))
    | 7 => .ok (.codeShrinkW7 (BitVec.ofNat 7 u))
    | 8 => .ok (.codeShrinkW8 (BitVec.ofNat 8 u))
    | 9 => .ok (.codeShrinkW9 (BitVec.ofNat 9 u))
    | 10 => .ok (.codeShrinkW10 (BitVec.ofNat 10 u))
    | 11 => .ok (.codeShrinkW11 (BitVec.ofNat 11 u))
    | 12 => .ok (.codeShrinkW12 (BitVec.ofNat 12 u))
    | 13 => .ok (.codeShrinkW13 (BitVec.ofNat 13 u))
    | 14 => .ok (.codeShrinkW14 (BitVec.ofNat 14 u))
    | 15 => .ok (.codeShrinkW15 (BitVec.ofNat 15 u))
    | 16 => .ok (.codeShrinkW16 (BitVec.ofNat 16 u))
    | _ => .error .widthOutOfRange
  | .rsv =>
    match w with
    | 2 => .ok .codeRsvW2
    | 3 => .ok .codeRsvW3
    | 4 => .ok .codeRsvW4
    | 5 => .ok .codeRsvW5
    | 6 => .ok .codeRsvW6
    | 7 => .ok .codeRsvW7
    | 8 => .ok .codeRsvW8
    | 9 => .ok .codeRsvW9
    | 10 => .ok .codeRsvW10
    | 11 => .ok .codeRsvW11
    | 12 => .ok .codeRsvW12
    | 13 => .ok .codeRsvW13
    | 14 => .ok .codeRsvW14
    | 15 => .ok .codeRsvW15
    | 16 => .ok .codeRsvW16
    | _ => .error .widthOutOfRange

/-- The code decoder (R88): take the width from the context, read that many bits, find the row of that width whose
ranges contain them. -/
def decodeCode (w u : Nat) : Except DecodeError Instr :=
  if w < Config.W_MIN ∨ Config.W_MAX < w then .error .widthOutOfRange
  else if 2 ^ w ≤ u then .error .fieldTooWide
  else codeRow w u (classOfField w u)

/-- The decoder. -/
def decode : Encoding → Except DecodeError Instr
  | .command word => decodeCommand word
  | .code w u => decodeCode w u
  | .endOfStream => .ok .codeEos

/-- The encoder: R76's word of a command, R80's field of a code. -/
def encode : Instr → Encoding
  | .nop => .command 0x00000000
  | .openStream => .command 0x00000001
  | .uinit => .command 0x00000002
  | .ureset => .command 0x00000003
  | .getblk => .command 0x00000004
  | .dinit => .command 0x00000005
  | .decode => .command 0x00000006
  | .refill => .command 0x00000007
  | .read => .command 0x00000008
  | .rewind => .command 0x00000009
  | .srst => .command 0x0000000F
  | .codeGrowW2 u => .code 2 u.toNat
  | .codeHoldW2 u => .code 2 u.toNat
  | .codeRsvW2 => .code 2 0x2
  | .codeGrowW3 u => .code 3 u.toNat
  | .codeHoldW3 u => .code 3 u.toNat
  | .codeShrinkW3 u => .code 3 u.toNat
  | .codeRsvW3 => .code 3 0x4
  | .codeGrowW4 u => .code 4 u.toNat
  | .codeHoldW4 u => .code 4 u.toNat
  | .codeShrinkW4 u => .code 4 u.toNat
  | .codeRsvW4 => .code 4 0x8
  | .codeGrowW5 u => .code 5 u.toNat
  | .codeHoldW5 u => .code 5 u.toNat
  | .codeShrinkW5 u => .code 5 u.toNat
  | .codeRsvW5 => .code 5 0x10
  | .codeGrowW6 u => .code 6 u.toNat
  | .codeHoldW6 u => .code 6 u.toNat
  | .codeShrinkW6 u => .code 6 u.toNat
  | .codeRsvW6 => .code 6 0x20
  | .codeGrowW7 u => .code 7 u.toNat
  | .codeHoldW7 u => .code 7 u.toNat
  | .codeShrinkW7 u => .code 7 u.toNat
  | .codeRsvW7 => .code 7 0x40
  | .codeGrowW8 u => .code 8 u.toNat
  | .codeHoldW8 u => .code 8 u.toNat
  | .codeShrinkW8 u => .code 8 u.toNat
  | .codeRsvW8 => .code 8 0x80
  | .codeGrowW9 u => .code 9 u.toNat
  | .codeHoldW9 u => .code 9 u.toNat
  | .codeShrinkW9 u => .code 9 u.toNat
  | .codeRsvW9 => .code 9 0x100
  | .codeGrowW10 u => .code 10 u.toNat
  | .codeHoldW10 u => .code 10 u.toNat
  | .codeShrinkW10 u => .code 10 u.toNat
  | .codeRsvW10 => .code 10 0x200
  | .codeGrowW11 u => .code 11 u.toNat
  | .codeHoldW11 u => .code 11 u.toNat
  | .codeShrinkW11 u => .code 11 u.toNat
  | .codeRsvW11 => .code 11 0x400
  | .codeGrowW12 u => .code 12 u.toNat
  | .codeHoldW12 u => .code 12 u.toNat
  | .codeShrinkW12 u => .code 12 u.toNat
  | .codeRsvW12 => .code 12 0x800
  | .codeGrowW13 u => .code 13 u.toNat
  | .codeHoldW13 u => .code 13 u.toNat
  | .codeShrinkW13 u => .code 13 u.toNat
  | .codeRsvW13 => .code 13 0x1000
  | .codeGrowW14 u => .code 14 u.toNat
  | .codeHoldW14 u => .code 14 u.toNat
  | .codeShrinkW14 u => .code 14 u.toNat
  | .codeRsvW14 => .code 14 0x2000
  | .codeGrowW15 u => .code 15 u.toNat
  | .codeHoldW15 u => .code 15 u.toNat
  | .codeShrinkW15 u => .code 15 u.toNat
  | .codeRsvW15 => .code 15 0x4000
  | .codeGrowW16 u => .code 16 u.toNat
  | .codeHoldW16 u => .code 16 u.toNat
  | .codeShrinkW16 u => .code 16 u.toNat
  | .codeRsvW16 => .code 16 0x8000
  | .codeEos => .endOfStream

/-- The number of bits of `n` up to its highest set bit, `fuel` at most. -/
def bitLength : Nat → Nat → Nat
  | 0, _ => 0
  | fuel + 1, n => if n = 0 then 0 else bitLength fuel (n / 2) + 1

/-- The width at which a bare code word of the table is read: the least code width of a row of `nbits` bits that holds
it. The table's code rows do not put the width into the bits (R83); one byte is a row of width 2 to 8, two bytes a row of
width 9 to 16. DESIGN CHOICE, notes/assumptions/12.md. -/
def tableWidth (nbits u : Nat) : Nat := max (if nbits ≤ 8 then Config.W_MIN else 9) (bitLength 32 u)

/-- The bits of a table row: 32 bits are a command word, no bits are CODE.EOS, anything else a code word. -/
def tableEncoding (nbits w : Nat) : Encoding :=
  if nbits = 32 then .command (BitVec.ofNat 32 w)
  else if nbits = 0 then .endOfStream
  else .code (tableWidth nbits w) w

/-- What the decoder reads from a row's bits, numbered as spec/opcode_table.json numbers them. -/
def decodeTableWord (nbits w : Nat) : Option Instr :=
  match decode (tableEncoding nbits w) with
  | .ok i => some i
  | .error _ => none

end Sys2Proof
end

