-- ==== Sys2Proof/Machine/Operands.lean ====
section
/-! DEFINITION. Operand assembly (spec/30_encoding.md R71, R72, R78, R81, R87), the geometry's checks and its derived
block size (spec/00_scope.md R8, spec/41_unpacker.md R111, spec/42_decoder.md R131), the rescaling of an emitted sample
(spec/43_stream.md R155), and the register a host offset names (spec/10_state.md R21). -/

namespace Sys2Proof.Machine

/-- Bytes as an unsigned little-endian number (spec/20_memory.md R52). -/
def littleEndian : List Byte → Nat
  | [] => 0
  | b :: bs => b.toNat + 256 * littleEndian bs

/-- `levels = g[15:4]` (R72). -/
def geometryLevels (g : Nat) : BitVec 12 := BitVec.ofNat 12 (g / 16)

/-- `subblocks = g[3:0]` (R72). -/
def geometrySubblocks (g : Nat) : BitVec 4 := BitVec.ofNat 4 g

/-- The value `v = sext_w(u)` of a code that is not reserved (R81). -/
def codeValue {w : Nat} (u : BitVec w) : Int := u.toInt

/-- A code's value as GETBLK stores it: `sext_32` of itself (R87). -/
def slotOfValue (v : Int) : Slot := BitVec.ofInt 32 v

/-- `wrap32(x + y)`, RE's only operation (spec/42_decoder.md R138). -/
def wrapAdd (x y : Slot) : Slot := x + y

/-- `Emit(x) = trunc16(x >>a LEVELS)` (spec/43_stream.md R155). -/
def emit (levels : Nat) (x : Slot) : Sample := (x.sshiftRight levels).setWidth 16

/-- `blockSize = (1 << levels) * subblocks` (spec/00_scope.md R8). -/
def State.blockSize (s : State) : Nat := 2 ^ s.levels.toNat * s.subblocks.toNat

/-- BU's geometry predicate UGeomOK (spec/41_unpacker.md R111). -/
def State.uGeomOK (s : State) : Bool :=
  decide (1 ≤ s.levels.toNat) && decide (s.levels.toNat ≤ Config.LEVELS_MAX) &&
    decide (1 ≤ s.subblocks.toNat) && decide (s.subblocks.toNat ≤ Config.SUBBLOCKS_MAX)

/-- RE's geometry predicate DGeomOK (spec/42_decoder.md R131). -/
def State.dGeomOK (s : State) : Bool :=
  decide (Config.LEVELS_MIN ≤ s.levels.toNat) && decide (s.levels.toNat ≤ Config.LEVELS_MAX) &&
    decide (1 ≤ s.subblocks.toNat) && decide (s.blockSize ≤ Config.BUF_SLOTS)

/-- What BLOCKSIZE reads: the block size of a geometry RE accepts, else 0 (spec/10_state.md R27). -/
def State.blocksizeWord (s : State) : Word := if s.dGeomOK then BitVec.ofNat 32 s.blockSize else 0

/-- Context entry `i`'s width, 0 past the file's end (spec/10_state.md R33). -/
def State.ctxWidth (s : State) (i : Nat) : Nat := ((s.ctx[i]?).getD 0).toNat

/-- The widths and indices BU's rules presuppose while UOK is set (spec/10_state.md R40(c)); FetchBits is given for no
other width (spec/41_unpacker.md R115). -/
def State.contextLegal (s : State) : Bool :=
  s.uGeomOK && decide (s.lvlptr.toNat < s.levels.toNat) &&
    (List.range s.levels.toNat).all fun i =>
      decide (Config.W_MIN ≤ s.ctxWidth i) && decide (s.ctxWidth i ≤ Config.W_MAX)

/-- The register at a byte offset, if there is one (spec/10_state.md R21). -/
def regAt (offset : Nat) : Option Reg :=
  match offset with
  | 0x00 => some .cmd
  | 0x04 => some .status
  | 0x08 => some .arg0
  | 0x0C => some .arg1
  | 0x10 => some .result
  | 0x14 => some .samples
  | 0x18 => some .channels
  | 0x1C => some .rate
  | 0x20 => some .levels
  | 0x24 => some .subblocks
  | 0x28 => some .blocksize
  | 0x2C => some .samplesLeft
  | 0x30 => some .samplesReady
  | 0x34 => some .rdptr
  | 0x38 => some .pos
  | 0x3C => some .size
  | 0x40 => some .bitbuf
  | 0x44 => some .bitcnt
  | 0x48 => some .lvlptr
  | 0x4C => some .bufidx
  | 0x50 => some .bufdata
  | _ =>
    if offset % 4 ≠ 0 then none
    else if h : 0x80 ≤ offset ∧ offset < 0xC0 then some (.ctx ⟨(offset - 0x80) / 4, by omega⟩)
    else if h : 0xC0 ≤ offset ∧ offset < 0x100 then some (.scr ⟨(offset - 0xC0) / 4, by omega⟩)
    else none

/-- Whether the register space performs an access: 32 bits wide at a multiple of 4
(spec/20_memory.md R60, spec/44_system.md R177). -/
def accessPerformed (offset width : Nat) : Bool := width == 32 && offset % 4 == 0

end Sys2Proof.Machine
end

