-- ==== Sys2Proof/Machine/Ops.lean ====
section
/-! DEFINITION. The named operations over memory and registers: the sparse spaces BUF and OUT, the stream port
(spec/20_memory.md), the context and scratch files, reset (spec/70_reset_and_hazards.md R201) and fatal-error entry
(spec/60_exceptions.md R186). There is no return from a fatal error but reset (R190). -/

namespace Sys2Proof.Machine

/-- What was last written at an index, none where nothing has been. -/
def Memory.read? {α : Type} : Memory α → Nat → Option α
  | [], _ => none
  | (k, v) :: m, i => if i = k then some v else Memory.read? m i

/-- One cell written, the list kept in its canonical form. -/
def Memory.write {α : Type} : Memory α → Nat → α → Memory α
  | [], i, x => [(i, x)]
  | (k, v) :: m, i, x =>
    if i < k then (i, x) :: (k, v) :: m
    else if i = k then (i, x) :: m
    else (k, v) :: Memory.write m i x

/-- The canonical form: indices strictly rising. -/
def Memory.wf {α : Type} : Memory α → Bool
  | [] => true
  | [_] => true
  | a :: b :: m => decide (a.1 < b.1) && Memory.wf (b :: m)

/-- Every listed index lies in the space. -/
def Memory.below {α : Type} (m : Memory α) (bound : Nat) : Bool := m.all fun c => decide (c.1 < bound)

/-- SIZE, the attached stream's length (spec/10_state.md R30, R41). -/
def State.size (s : State) : Nat := s.stream.length

/-- `buf[i]`: what was last written there, or the free value that an unwritten slot holds
(spec/10_state.md R39, spec/93_implementation_defined.md U6). -/
def State.readSlot (s : State) (i : Nat) : Slot :=
  (s.buf.read? i).getD (Config.freeSlot s.bufEpoch i)

/-- `buf[i] <- v` (spec/20_memory.md R58). -/
def State.writeSlot (s : State) (i : Nat) (v : Slot) : State := { s with buf := s.buf.write i v }

/-- `MemWrite(OUT, idx, 2, v)`: element `idx mod 2^32` (spec/20_memory.md R59); a Word wraps by itself. -/
def State.writeOut (s : State) (idx : Word) (v : Sample) : State :=
  { s with out := s.out.write idx.toNat v }

/-- `MemRead(STREAM, a, n)`, defined only inside the stream (spec/20_memory.md R52, spec/00_scope.md R10). -/
def State.memRead (s : State) (a n : Nat) : Option Nat :=
  if a + n ≤ s.size then some (littleEndian ((s.stream.drop a).take n)) else none

/-- A typed read at POS, which advances POS; past SIZE it is an IOError (spec/20_memory.md R53, R54). -/
def State.typedRead (s : State) (n : Nat) : Except FatalError (Nat × State) :=
  match s.memRead s.pos.toNat n with
  | some v => .ok (v, { s with pos := s.pos + BitVec.ofNat 32 n })
  | none => .error .io

/-- The next payload byte moved into the accumulator above the bits it holds (spec/41_unpacker.md R115). Used only
where POS < SIZE. -/
def State.fetchByte (s : State) : State :=
  { s with
    pos := s.pos + 1
    bitbuf := s.bitbuf ||| (((s.stream[s.pos.toNat]?).getD 0).setWidth 32 <<< s.bitcnt.toNat)
    bitcnt := s.bitcnt + 8 }

/-- The low `w` bits of the accumulator consumed (spec/41_unpacker.md R115). -/
def State.consumeBits (s : State) (w : Nat) : State :=
  { s with bitbuf := s.bitbuf >>> w, bitcnt := s.bitcnt - BitVec.ofNat 5 w }

/-- `ctx[LVLPTR] <- w` (spec/10_state.md R33). -/
def State.setCtx (s : State) (w : Nat) : State :=
  { s with ctx := s.ctx.set s.lvlptr.toNat (BitVec.ofNat 5 w) s.lvlptr.isLt }

/-- `LVLPTR <- (LVLPTR + 1) mod LEVELS` (spec/10_state.md R34). -/
def State.advanceLevel (s : State) : State :=
  { s with lvlptr := BitVec.ofNat 4 ((s.lvlptr.toNat + 1) % s.levels.toNat) }

/-- `scr[l] <- v` (spec/10_state.md R37); the file has 16 entries. -/
def State.writeScr (s : State) (l : Nat) (v : Slot) : State := { s with scr := s.scr.setIfInBounds l v }

/-- Every entry of the scratch file 0 (spec/42_decoder.md R132). -/
def State.clearScr (s : State) : State := { s with scr := Vector.replicate 16 0 }

/-- `scr[l]` (spec/10_state.md R37). -/
def State.readScr (s : State) (l : Nat) : Slot := (s.scr[l]?).getD 0

/-- Every register and file at its reset value (spec/10_state.md R39, spec/70_reset_and_hazards.md R201). The buffer's
slots become unspecified again; the stream, OUT and what the host does are not the block's and stay
(notes/assumptions/13.md). -/
def State.resetBlock (s : State) : State :=
  { State.reset with
    stream := s.stream
    out := s.out
    bufEpoch := s.bufEpoch + 1
    actions := s.actions
    readLog := s.readLog }

/-- Fatal-error entry (spec/60_exceptions.md R186): every register and file takes its reset value except ARG0, ARG1,
BUFIDX and the buffer; FAULT, FCODE, FSUB and ERR record the cause; RESULT is 0. No handler, no vector, no saved
cursor. -/
def State.raise (s : State) (e : FatalError) : State :=
  { s with
    status := { Status.reset with
      fault := true, fcode := e.fatalCode, fsub := e.subUnit, err := e.errCode }
    result := 0
    samples := 0
    channels := 0
    rate := 0
    levels := 0
    subblocks := 0
    samplesLeft := 0
    samplesReady := 0
    rdptr := 0
    pos := 0
    bitbuf := 0
    bitcnt := 0
    lvlptr := 0
    ctx := Vector.replicate 16 0
    scr := Vector.replicate 16 0 }

/-- The next host action taken off the list. -/
def State.popAction (s : State) (rest : List HostAction) : State := { s with actions := rest }

/-- A command has begun: an instance with a command run since reset is live (spec/20_memory.md R55). -/
def State.markLive (s : State) : State :=
  { s with session := match s.session with | .changed => .changed | _ => .live }

/-- The stream replaced by the platform (spec/20_memory.md R55): allowed before the first command, else recorded as
changed under a live instance (spec/70_reset_and_hazards.md R211). -/
def State.attachStream (s : State) (bytes : List Byte) : State :=
  { s with
    stream := bytes
    session := match s.session with | .fresh => .fresh | _ => .changed }

/-- A value returned to the host (spec/70_reset_and_hazards.md R214). -/
def State.logRead (s : State) (v : Word) : State := { s with readLog := s.readLog ++ [v] }

/-- ReadCode's answer put on the code port (notes/assumptions/6.md). -/
def State.deliver (s : State) (r : CodeResult) : State := { s with port := .returned r }

end Sys2Proof.Machine
end

