-- ==== Sys2Proof/Machine/Codes.lean ====
section
/-! DEFINITION. The payload's code classes as instructions (spec/41_unpacker.md R117 to R121). The five shared
operations answer what ReadCode returns and the state it leaves; the code's bits have been fetched and consumed by
FetchBits (R115, Machine/Unpacker.lean) before a class acts, as R116 orders it. One definition per row of the table
puts that answer on the code port. -/

namespace Sys2Proof.Machine

/-- Class GROW: yields the value, widens the level's next code by one bit up to W_MAX, moves to the next level
(R116, R117). -/
def growCode {w : Nat} (u : BitVec w) (s : State) : CodeResult × State :=
  (.ok (codeValue u), (s.setCtx (min (w + 1) Config.W_MAX)).advanceLevel)

/-- Class HOLD: yields the value, keeps the width, moves to the next level (R116, R118). -/
def holdCode {w : Nat} (u : BitVec w) (s : State) : CodeResult × State :=
  (.ok (codeValue u), s.advanceLevel)

/-- Class SHRINK: yields the value, narrows the level's next code by one bit down to W_MIN, moves to the next level
(R116, R119). -/
def shrinkCode {w : Nat} (u : BitVec w) (s : State) : CodeResult × State :=
  (.ok (codeValue u), (s.setCtx (max (w - 1) Config.W_MIN)).advanceLevel)

/-- Class RSV: malformed data; context and level pointer stay (R116, R120). -/
def rsvCode (s : State) : CodeResult × State := (.rsv, s)

/-- CODE.EOS: a bit is missing; context and level pointer stay (R116, R121). -/
def eosCode (s : State) : CodeResult × State := (.eos, s)

/-- A code that moves the context runs only over a context R40(c) allows (notes/assumptions/11.md). -/
def runCode (f : State → CodeResult × State) (s : State) : Out :=
  if s.contextLegal then .next ((f s).2.deliver (f s).1) else .fault .illegalContext

/-- CODE.GROW.w2, R117. -/
def execCodeGrowW2 (u : BitVec 2) (s : State) : Out := runCode (growCode u) s

/-- CODE.HOLD.w2, R118. -/
def execCodeHoldW2 (u : BitVec 2) (s : State) : Out := runCode (holdCode u) s

/-- CODE.RSV.w2, R120. -/
def execCodeRsvW2 (s : State) : Out := .next ((rsvCode s).2.deliver (rsvCode s).1)

/-- CODE.GROW.w3, R117. -/
def execCodeGrowW3 (u : BitVec 3) (s : State) : Out := runCode (growCode u) s

/-- CODE.HOLD.w3, R118. -/
def execCodeHoldW3 (u : BitVec 3) (s : State) : Out := runCode (holdCode u) s

/-- CODE.SHRINK.w3, R119. -/
def execCodeShrinkW3 (u : BitVec 3) (s : State) : Out := runCode (shrinkCode u) s

/-- CODE.RSV.w3, R120. -/
def execCodeRsvW3 (s : State) : Out := .next ((rsvCode s).2.deliver (rsvCode s).1)

/-- CODE.GROW.w4, R117. -/
def execCodeGrowW4 (u : BitVec 4) (s : State) : Out := runCode (growCode u) s

/-- CODE.HOLD.w4, R118. -/
def execCodeHoldW4 (u : BitVec 4) (s : State) : Out := runCode (holdCode u) s

/-- CODE.SHRINK.w4, R119. -/
def execCodeShrinkW4 (u : BitVec 4) (s : State) : Out := runCode (shrinkCode u) s

/-- CODE.RSV.w4, R120. -/
def execCodeRsvW4 (s : State) : Out := .next ((rsvCode s).2.deliver (rsvCode s).1)

/-- CODE.GROW.w5, R117. -/
def execCodeGrowW5 (u : BitVec 5) (s : State) : Out := runCode (growCode u) s

/-- CODE.HOLD.w5, R118. -/
def execCodeHoldW5 (u : BitVec 5) (s : State) : Out := runCode (holdCode u) s

/-- CODE.SHRINK.w5, R119. -/
def execCodeShrinkW5 (u : BitVec 5) (s : State) : Out := runCode (shrinkCode u) s

/-- CODE.RSV.w5, R120. -/
def execCodeRsvW5 (s : State) : Out := .next ((rsvCode s).2.deliver (rsvCode s).1)

/-- CODE.GROW.w6, R117. -/
def execCodeGrowW6 (u : BitVec 6) (s : State) : Out := runCode (growCode u) s

/-- CODE.HOLD.w6, R118. -/
def execCodeHoldW6 (u : BitVec 6) (s : State) : Out := runCode (holdCode u) s

/-- CODE.SHRINK.w6, R119. -/
def execCodeShrinkW6 (u : BitVec 6) (s : State) : Out := runCode (shrinkCode u) s

/-- CODE.RSV.w6, R120. -/
def execCodeRsvW6 (s : State) : Out := .next ((rsvCode s).2.deliver (rsvCode s).1)

/-- CODE.GROW.w7, R117. -/
def execCodeGrowW7 (u : BitVec 7) (s : State) : Out := runCode (growCode u) s

/-- CODE.HOLD.w7, R118. -/
def execCodeHoldW7 (u : BitVec 7) (s : State) : Out := runCode (holdCode u) s

/-- CODE.SHRINK.w7, R119. -/
def execCodeShrinkW7 (u : BitVec 7) (s : State) : Out := runCode (shrinkCode u) s

/-- CODE.RSV.w7, R120. -/
def execCodeRsvW7 (s : State) : Out := .next ((rsvCode s).2.deliver (rsvCode s).1)

/-- CODE.GROW.w8, R117. -/
def execCodeGrowW8 (u : BitVec 8) (s : State) : Out := runCode (growCode u) s

/-- CODE.HOLD.w8, R118. -/
def execCodeHoldW8 (u : BitVec 8) (s : State) : Out := runCode (holdCode u) s

/-- CODE.SHRINK.w8, R119. -/
def execCodeShrinkW8 (u : BitVec 8) (s : State) : Out := runCode (shrinkCode u) s

/-- CODE.RSV.w8, R120. -/
def execCodeRsvW8 (s : State) : Out := .next ((rsvCode s).2.deliver (rsvCode s).1)

/-- CODE.GROW.w9, R117. -/
def execCodeGrowW9 (u : BitVec 9) (s : State) : Out := runCode (growCode u) s

/-- CODE.HOLD.w9, R118. -/
def execCodeHoldW9 (u : BitVec 9) (s : State) : Out := runCode (holdCode u) s

/-- CODE.SHRINK.w9, R119. -/
def execCodeShrinkW9 (u : BitVec 9) (s : State) : Out := runCode (shrinkCode u) s

/-- CODE.RSV.w9, R120. -/
def execCodeRsvW9 (s : State) : Out := .next ((rsvCode s).2.deliver (rsvCode s).1)

/-- CODE.GROW.w10, R117. -/
def execCodeGrowW10 (u : BitVec 10) (s : State) : Out := runCode (growCode u) s

/-- CODE.HOLD.w10, R118. -/
def execCodeHoldW10 (u : BitVec 10) (s : State) : Out := runCode (holdCode u) s

/-- CODE.SHRINK.w10, R119. -/
def execCodeShrinkW10 (u : BitVec 10) (s : State) : Out := runCode (shrinkCode u) s

/-- CODE.RSV.w10, R120. -/
def execCodeRsvW10 (s : State) : Out := .next ((rsvCode s).2.deliver (rsvCode s).1)

/-- CODE.GROW.w11, R117. -/
def execCodeGrowW11 (u : BitVec 11) (s : State) : Out := runCode (growCode u) s

/-- CODE.HOLD.w11, R118. -/
def execCodeHoldW11 (u : BitVec 11) (s : State) : Out := runCode (holdCode u) s

/-- CODE.SHRINK.w11, R119. -/
def execCodeShrinkW11 (u : BitVec 11) (s : State) : Out := runCode (shrinkCode u) s

/-- CODE.RSV.w11, R120. -/
def execCodeRsvW11 (s : State) : Out := .next ((rsvCode s).2.deliver (rsvCode s).1)

/-- CODE.GROW.w12, R117. -/
def execCodeGrowW12 (u : BitVec 12) (s : State) : Out := runCode (growCode u) s

/-- CODE.HOLD.w12, R118. -/
def execCodeHoldW12 (u : BitVec 12) (s : State) : Out := runCode (holdCode u) s

/-- CODE.SHRINK.w12, R119. -/
def execCodeShrinkW12 (u : BitVec 12) (s : State) : Out := runCode (shrinkCode u) s

/-- CODE.RSV.w12, R120. -/
def execCodeRsvW12 (s : State) : Out := .next ((rsvCode s).2.deliver (rsvCode s).1)

/-- CODE.GROW.w13, R117. -/
def execCodeGrowW13 (u : BitVec 13) (s : State) : Out := runCode (growCode u) s

/-- CODE.HOLD.w13, R118. -/
def execCodeHoldW13 (u : BitVec 13) (s : State) : Out := runCode (holdCode u) s

/-- CODE.SHRINK.w13, R119. -/
def execCodeShrinkW13 (u : BitVec 13) (s : State) : Out := runCode (shrinkCode u) s

/-- CODE.RSV.w13, R120. -/
def execCodeRsvW13 (s : State) : Out := .next ((rsvCode s).2.deliver (rsvCode s).1)

/-- CODE.GROW.w14, R117. -/
def execCodeGrowW14 (u : BitVec 14) (s : State) : Out := runCode (growCode u) s

/-- CODE.HOLD.w14, R118. -/
def execCodeHoldW14 (u : BitVec 14) (s : State) : Out := runCode (holdCode u) s

/-- CODE.SHRINK.w14, R119. -/
def execCodeShrinkW14 (u : BitVec 14) (s : State) : Out := runCode (shrinkCode u) s

/-- CODE.RSV.w14, R120. -/
def execCodeRsvW14 (s : State) : Out := .next ((rsvCode s).2.deliver (rsvCode s).1)

/-- CODE.GROW.w15, R117. -/
def execCodeGrowW15 (u : BitVec 15) (s : State) : Out := runCode (growCode u) s

/-- CODE.HOLD.w15, R118. -/
def execCodeHoldW15 (u : BitVec 15) (s : State) : Out := runCode (holdCode u) s

/-- CODE.SHRINK.w15, R119. -/
def execCodeShrinkW15 (u : BitVec 15) (s : State) : Out := runCode (shrinkCode u) s

/-- CODE.RSV.w15, R120. -/
def execCodeRsvW15 (s : State) : Out := .next ((rsvCode s).2.deliver (rsvCode s).1)

/-- CODE.GROW.w16, R117. -/
def execCodeGrowW16 (u : BitVec 16) (s : State) : Out := runCode (growCode u) s

/-- CODE.HOLD.w16, R118. -/
def execCodeHoldW16 (u : BitVec 16) (s : State) : Out := runCode (holdCode u) s

/-- CODE.SHRINK.w16, R119. -/
def execCodeShrinkW16 (u : BitVec 16) (s : State) : Out := runCode (shrinkCode u) s

/-- CODE.RSV.w16, R120. -/
def execCodeRsvW16 (s : State) : Out := .next ((rsvCode s).2.deliver (rsvCode s).1)

/-- CODE.EOS, R121. -/
def execCodeEos (s : State) : Out := .next ((eosCode s).2.deliver (eosCode s).1)

end Sys2Proof.Machine
end

