-- ==== Sys2Proof/Machine/Unpacker.lean ====
section
/-! DEFINITION. BU, the adaptive bitstream unpacker: UINIT, URESET, GETBLK and the functions they share
(spec/41_unpacker.md R112 to R116, R122). -/

namespace Sys2Proof.Machine

/-- `UnpackerResetState()` (R113): every live level's width W_INIT, the others 0, the level pointer, the accumulator and
the failure flags cleared. POS stays. -/
def State.unpackerReset (s : State) : State :=
  { s.clearUfail with
    ctx := Vector.ofFn fun i : Fin 16 =>
      if i.val < s.levels.toNat then BitVec.ofNat 5 Config.W_INIT else 0
    lvlptr := 0
    bitbuf := 0
    bitcnt := 0 }

/-- R112's length test: at least `SUBBLOCKS * W_MIN` payload bits remain. -/
def State.payloadSuffices (s : State) : Bool :=
  decide (s.subblocks.toNat * Config.W_MIN ≤ 8 * (s.size - s.pos.toNat))

/-- `UnpackerInit()` (R112): what it returns and the state it leaves; a failure changes UOK only. -/
def unpackerInit (s : State) : Bool × State :=
  if s.uGeomOK && s.payloadSuffices then (true, s.unpackerReset.setUok true)
  else (false, s.setUok false)

/-- FetchBits' loop (R115): bytes moved into the accumulator, one at a time, while it holds fewer than `w` bits and the
stream has more. Each round adds eight bits, so `w` rounds suffice. -/
def fillBits (w : Nat) : Nat → State → State
  | 0, s => s
  | rounds + 1, s =>
    if s.bitcnt.toNat < w ∧ s.pos.toNat < s.size then fillBits w rounds s.fetchByte else s

/-- `FetchBits(w)` (R115): the field read, or none at the end of the stream, and the state left; nothing is rolled
back. -/
def fetchBits (w : Nat) (s : State) : Option (BitVec w) × State :=
  let s' := fillBits w w s
  if s'.bitcnt.toNat < w then (none, s')
  else (some (s'.bitbuf.setWidth w), s'.consumeBits w)

/-- The class branch of `ReadCode()` (R116), by the magnitude of the value. -/
def classify {w : Nat} (u : BitVec w) (s : State) : CodeResult × State :=
  if u.toNat = 2 ^ (w - 1) then rsvCode s
  else if 2 ^ (w - 2) ≤ (codeValue u).natAbs then growCode u s
  else if 3 ≤ w ∧ (codeValue u).natAbs < 2 ^ (w - 3) then shrinkCode u s
  else holdCode u s

/-- `ReadCode()` (R116): one value extracted at the width `ctx[LVLPTR]` gives, and the context updated. -/
def readCode (s : State) : CodeResult × State :=
  match fetchBits (s.ctxWidth s.lvlptr.toNat) s with
  | (none, s') => eosCode s'
  | (some u, s') => classify u s'

/-- GetOneBlock's loop (R122): `n` more codes, the next one for slot `j`. -/
def fillBlock : Nat → Nat → State → Bool × State
  | 0, _, s => (true, s)
  | n + 1, j, s =>
    match readCode s with
    | (.ok v, s') => fillBlock n (j + 1) (s'.writeSlot j (slotOfValue v))
    | (.eos, s') => (false, s'.failUnpacker .endOfStream)
    | (.rsv, s') => (false, s'.failUnpacker .reservedCode)

/-- `GetOneBlock()` (R122): the next SUBBLOCKS values into slots 0 up, or false at once after a failure (R124). -/
def getOneBlock (s : State) : Bool × State :=
  if s.status.ufail then (false, s) else fillBlock s.subblocks.toNat 0 s

/-- A boolean command's RESULT (spec/10_state.md R25). -/
def boolWord (b : Bool) : Word := if b then 1 else 0

/-- UINIT, R112. -/
def execUinit (s : State) : Out :=
  if s.status.fault then .next (s.refuse .faulted)
  else .next ((unpackerInit s).2.complete (boolWord (unpackerInit s).1))

/-- URESET, R114. -/
def execUreset (s : State) : Out :=
  if s.status.fault then .next (s.refuse .faulted)
  else if !s.status.uok then .next (s.refuse .badState)
  else .next (s.unpackerReset.complete 1)

/-- GETBLK, R122. After a failure no code is read (R124), so no context is needed. -/
def execGetblk (s : State) : Out :=
  if s.status.fault then .next (s.refuse .faulted)
  else if !s.status.uok then .next (s.refuse .badState)
  else if !s.status.ufail && !s.contextLegal then .fault .illegalContext
  else .next ((getOneBlock s).2.complete (boolWord (getOneBlock s).1))

end Sys2Proof.Machine
end

