-- ==== Sys2Proof/Machine/Reconstruct.lean ====
section
/-! DEFINITION. RE, the hierarchical reconstruction engine: DINIT, DECODE and the functions they share
(spec/42_decoder.md R132, R133). -/

namespace Sys2Proof.Machine

/-- `DecoderInit()` (R132): what it returns and the state it leaves; a failure changes DOK only. -/
def decoderInit (s : State) : Bool × State :=
  if s.dGeomOK then (true, s.clearScr.setDok true) else (false, s.setDok false)

/-- Step `i` of a stage over a span of `n` slots whose last element is its own right neighbour, `edge` (R133): both reads
come before both writes (R134). -/
def pairStep (n : Nat) (edge : Slot) (i : Nat) (s : State) : State :=
  let a := s.readSlot i
  let b := if i = n - 1 then edge else s.readSlot (i + 1)
  (s.writeSlot (2 * i + 1) (wrapAdd a b)).writeSlot (2 * i) (wrapAdd a a)

/-- The steps `i = k-1` down to 0 of a stage (R133's descending loop). -/
def runStage (n : Nat) (edge : Slot) : Nat → State → State
  | 0, s => s
  | i + 1, s => runStage n edge i (pairStep n edge i s)

/-- `k` stages from level `l` on, over a populated span of `n` slots that each stage doubles (R133). -/
def runStages : Nat → Nat → Nat → State → State
  | 0, _, _, s => s
  | k + 1, l, n, s =>
    let s' := s.writeScr l (s.readSlot (n - 1))
    runStages k (l + 1) (2 * n) (runStage n (s'.readScr l) n s')

/-- `DecodeData(S)` (R133): one stage per level, from a span of `S` slots. -/
def decodeData (S : Nat) (s : State) : State := runStages s.levels.toNat 0 S s

/-- DECODE's argument check: `1 <= ARG0` and `ARG0 * (1 << LEVELS) <= BUF_SLOTS` (R133). -/
def State.decodeArgOK (s : State) : Bool :=
  decide (1 ≤ s.arg0.toNat) && decide (s.arg0.toNat * 2 ^ s.levels.toNat ≤ Config.BUF_SLOTS)

/-- DINIT, R132. -/
def execDinit (s : State) : Out :=
  if s.status.fault then .next (s.refuse .faulted)
  else .next ((decoderInit s).2.complete (boolWord (decoderInit s).1))

/-- DECODE, R133. -/
def execDecode (s : State) : Out :=
  if s.status.fault then .next (s.refuse .faulted)
  else if !s.status.dok then .next (s.refuse .badState)
  else if !s.decodeArgOK then .next (s.refuse .badArg)
  else if !s.dGeomOK then .fault .illegalGeometry
  else .next ((decodeData s.arg0.toNat s).complete 1)

end Sys2Proof.Machine
end

