-- ==== Sys2Proof/Machine/Sequencer.lean ====
section
/-! DEFINITION. SEQ, the sequencer: OPEN (spec/40_header_open.md R100), REFILL, READ and REWIND
(spec/43_stream.md R151 to R156). -/

namespace Sys2Proof.Machine

/-- OPEN's first half (R100, R101): the signature, then the other four header fields, in order, at POS. -/
def parseHeader (s : State) : Except FatalError State :=
  if s.size < 4 then .error .format
  else do
    let (sig, s) ← { s with pos := 0 }.typedRead 4
    if sig ≠ Config.MAGIC then .error .format
    else if s.size < Config.HDR_BYTES then .error .io
    else do
      let (n, s) ← s.typedRead 4
      let (c, s) ← s.typedRead 2
      let (r, s) ← s.typedRead 2
      let (g, s) ← s.typedRead 2
      .ok { s with
        samples := BitVec.ofNat 32 n
        channels := BitVec.ofNat 16 c
        rate := BitVec.ofNat 16 r
        levels := geometryLevels g
        subblocks := geometrySubblocks g
        samplesLeft := BitVec.ofNat 32 n
        samplesReady := 0
        rdptr := 0 }

/-- OPEN's second half (R100): BU's initialisation, then RE's, then OPENED. -/
def initUnits (s : State) : Except FatalError State :=
  if !(unpackerInit s).1 then .error (.initialization .bu)
  else if !(decoderInit (unpackerInit s).2).1 then .error (.initialization .re)
  else .ok (decoderInit (unpackerInit s).2).2.setOpened

/-- OPEN's body (R100). -/
def openBody (s : State) : Except FatalError State := do
  let s ← parseHeader s
  initUnits s

/-- `Refill()` (R151): what it returns and the state it leaves. -/
def refill (s : State) : Bool × State :=
  match getOneBlock s with
  | (false, s') => (false, s')
  | (true, s') =>
    let d := decodeData s'.subblocks.toNat s'
    let ready := min d.blockSize d.samplesLeft.toNat
    (true, { d with
      samplesReady := BitVec.ofNat 32 ready
      samplesLeft := d.samplesLeft - BitVec.ofNat 32 ready
      rdptr := 0 })

/-- One emission of READ's loop (R153): slot RDPTR rescaled (R155) into element `ARG1 + p` of OUT. -/
def emitSample (p : Nat) (s : State) : State :=
  { s.writeOut (s.arg1 + BitVec.ofNat 32 p) (emit s.levels.toNat (s.readSlot s.rdptr.toNat)) with
    rdptr := s.rdptr + 1
    samplesReady := s.samplesReady - 1 }

/-- READ's loop (R153): at most `n` more samples after `p` produced; answers how many were produced in all. -/
def readLoop : Nat → Nat → State → Nat × State
  | 0, p, s => (p, s)
  | n + 1, p, s =>
    if s.samplesReady = 0 then
      if s.samplesLeft = 0 then (p, s)
      else
        match refill s with
        | (false, s') => (p, s')
        | (true, s') => readLoop n (p + 1) (emitSample p s')
    else readLoop n (p + 1) (emitSample p s)

/-- Whether READ will read a code: more samples are asked for than are ready, the stream has more, and BU has not
failed (R153, spec/41_unpacker.md R124). -/
def State.readNeedsCodes (s : State) : Bool :=
  decide (s.samplesReady.toNat < s.arg0.toNat) && s.samplesLeft != 0 && !s.status.ufail

/-- OPEN, R100. -/
def execOpen (s : State) : Out :=
  if s.status.fault then .next (s.refuse .faulted)
  else if s.status.opened then .next (s.refuse .badState)
  else
    match openBody s with
    | .ok s' => .next (s'.complete 1)
    | .error e => .next (s.raise e)

/-- REFILL, R152. -/
def execRefill (s : State) : Out :=
  if s.status.fault then .next (s.refuse .faulted)
  else if !s.status.opened then .next (s.refuse .badState)
  else if s.samplesReady != 0 || s.samplesLeft == 0 then .next (s.refuse .badState)
  else if !s.status.ufail && !s.contextLegal then .fault .illegalContext
  else .next ((refill s).2.complete (boolWord (refill s).1))

/-- READ, R153. -/
def execRead (s : State) : Out :=
  if s.status.fault then .next (s.refuse .faulted)
  else if !s.status.opened then .next (s.refuse .badState)
  else if s.readNeedsCodes && !s.contextLegal then .fault .illegalContext
  else
    let r := readLoop s.arg0.toNat 0 s
    .next (r.2.complete (BitVec.ofNat 32 r.1))

/-- REWIND, R156. -/
def execRewind (s : State) : Out :=
  if s.status.fault then .next (s.refuse .faulted)
  else if !s.status.opened then .next (s.refuse .badState)
  else
    .next ({ s with
      pos := BitVec.ofNat 32 Config.HDR_BYTES
      samplesReady := 0
      samplesLeft := s.samples
      rdptr := 0 }.unpackerReset.complete 1)

end Sys2Proof.Machine
end

