-- ==== Sys2Proof/Machine/System.lean ====
section
/-! DEFINITION. The system commands NOP and SRST (spec/44_system.md R170, R171). -/

namespace Sys2Proof.Machine

/-- NOP, R170: nothing changes, STATUS.ERR included. -/
def execNop (s : State) : Out := .next s

/-- SRST, R171: the same effect as hardware reset, legal in every state. -/
def execSrst (s : State) : Out := .next s.resetBlock

end Sys2Proof.Machine
end

