-- ==== Sys2Proof/Machine/Dispatch.lean ====
section
/-! DEFINITION. One arm per instruction, each a direct call of its meaning. -/

namespace Sys2Proof.Machine

def exec (i : Instr) (s : State) : Host.Outcome State Fault Refusal :=
  match i with
  | .nop => Sys2Proof.Machine.execNop s
  | .openStream => Sys2Proof.Machine.execOpen s
  | .uinit => Sys2Proof.Machine.execUinit s
  | .ureset => Sys2Proof.Machine.execUreset s
  | .getblk => Sys2Proof.Machine.execGetblk s
  | .dinit => Sys2Proof.Machine.execDinit s
  | .decode => Sys2Proof.Machine.execDecode s
  | .refill => Sys2Proof.Machine.execRefill s
  | .read => Sys2Proof.Machine.execRead s
  | .rewind => Sys2Proof.Machine.execRewind s
  | .srst => Sys2Proof.Machine.execSrst s
  | .codeGrowW2 u => Sys2Proof.Machine.execCodeGrowW2 u s
  | .codeHoldW2 u => Sys2Proof.Machine.execCodeHoldW2 u s
  | .codeRsvW2 => Sys2Proof.Machine.execCodeRsvW2 s
  | .codeGrowW3 u => Sys2Proof.Machine.execCodeGrowW3 u s
  | .codeHoldW3 u => Sys2Proof.Machine.execCodeHoldW3 u s
  | .codeShrinkW3 u => Sys2Proof.Machine.execCodeShrinkW3 u s
  | .codeRsvW3 => Sys2Proof.Machine.execCodeRsvW3 s
  | .codeGrowW4 u => Sys2Proof.Machine.execCodeGrowW4 u s
  | .codeHoldW4 u => Sys2Proof.Machine.execCodeHoldW4 u s
  | .codeShrinkW4 u => Sys2Proof.Machine.execCodeShrinkW4 u s
  | .codeRsvW4 => Sys2Proof.Machine.execCodeRsvW4 s
  | .codeGrowW5 u => Sys2Proof.Machine.execCodeGrowW5 u s
  | .codeHoldW5 u => Sys2Proof.Machine.execCodeHoldW5 u s
  | .codeShrinkW5 u => Sys2Proof.Machine.execCodeShrinkW5 u s
  | .codeRsvW5 => Sys2Proof.Machine.execCodeRsvW5 s
  | .codeGrowW6 u => Sys2Proof.Machine.execCodeGrowW6 u s
  | .codeHoldW6 u => Sys2Proof.Machine.execCodeHoldW6 u s
  | .codeShrinkW6 u => Sys2Proof.Machine.execCodeShrinkW6 u s
  | .codeRsvW6 => Sys2Proof.Machine.execCodeRsvW6 s
  | .codeGrowW7 u => Sys2Proof.Machine.execCodeGrowW7 u s
  | .codeHoldW7 u => Sys2Proof.Machine.execCodeHoldW7 u s
  | .codeShrinkW7 u => Sys2Proof.Machine.execCodeShrinkW7 u s
  | .codeRsvW7 => Sys2Proof.Machine.execCodeRsvW7 s
  | .codeGrowW8 u => Sys2Proof.Machine.execCodeGrowW8 u s
  | .codeHoldW8 u => Sys2Proof.Machine.execCodeHoldW8 u s
  | .codeShrinkW8 u => Sys2Proof.Machine.execCodeShrinkW8 u s
  | .codeRsvW8 => Sys2Proof.Machine.execCodeRsvW8 s
  | .codeGrowW9 u => Sys2Proof.Machine.execCodeGrowW9 u s
  | .codeHoldW9 u => Sys2Proof.Machine.execCodeHoldW9 u s
  | .codeShrinkW9 u => Sys2Proof.Machine.execCodeShrinkW9 u s
  | .codeRsvW9 => Sys2Proof.Machine.execCodeRsvW9 s
  | .codeGrowW10 u => Sys2Proof.Machine.execCodeGrowW10 u s
  | .codeHoldW10 u => Sys2Proof.Machine.execCodeHoldW10 u s
  | .codeShrinkW10 u => Sys2Proof.Machine.execCodeShrinkW10 u s
  | .codeRsvW10 => Sys2Proof.Machine.execCodeRsvW10 s
  | .codeGrowW11 u => Sys2Proof.Machine.execCodeGrowW11 u s
  | .codeHoldW11 u => Sys2Proof.Machine.execCodeHoldW11 u s
  | .codeShrinkW11 u => Sys2Proof.Machine.execCodeShrinkW11 u s
  | .codeRsvW11 => Sys2Proof.Machine.execCodeRsvW11 s
  | .codeGrowW12 u => Sys2Proof.Machine.execCodeGrowW12 u s
  | .codeHoldW12 u => Sys2Proof.Machine.execCodeHoldW12 u s
  | .codeShrinkW12 u => Sys2Proof.Machine.execCodeShrinkW12 u s
  | .codeRsvW12 => Sys2Proof.Machine.execCodeRsvW12 s
  | .codeGrowW13 u => Sys2Proof.Machine.execCodeGrowW13 u s
  | .codeHoldW13 u => Sys2Proof.Machine.execCodeHoldW13 u s
  | .codeShrinkW13 u => Sys2Proof.Machine.execCodeShrinkW13 u s
  | .codeRsvW13 => Sys2Proof.Machine.execCodeRsvW13 s
  | .codeGrowW14 u => Sys2Proof.Machine.execCodeGrowW14 u s
  | .codeHoldW14 u => Sys2Proof.Machine.execCodeHoldW14 u s
  | .codeShrinkW14 u => Sys2Proof.Machine.execCodeShrinkW14 u s
  | .codeRsvW14 => Sys2Proof.Machine.execCodeRsvW14 s
  | .codeGrowW15 u => Sys2Proof.Machine.execCodeGrowW15 u s
  | .codeHoldW15 u => Sys2Proof.Machine.execCodeHoldW15 u s
  | .codeShrinkW15 u => Sys2Proof.Machine.execCodeShrinkW15 u s
  | .codeRsvW15 => Sys2Proof.Machine.execCodeRsvW15 s
  | .codeGrowW16 u => Sys2Proof.Machine.execCodeGrowW16 u s
  | .codeHoldW16 u => Sys2Proof.Machine.execCodeHoldW16 u s
  | .codeShrinkW16 u => Sys2Proof.Machine.execCodeShrinkW16 u s
  | .codeRsvW16 => Sys2Proof.Machine.execCodeRsvW16 s
  | .codeEos => Sys2Proof.Machine.execCodeEos s

end Sys2Proof.Machine
end

