-- ==== Sys2Proof/Machine/Registers.lean ====
section
/-! DEFINITION. Host register reads and the writes that start no command (spec/10_state.md R21, R27, R32;
spec/44_system.md R172 to R177). -/

namespace Sys2Proof.Machine

/-- A register's value as a 32-bit word: fields zero-extended, BUFDATA and SCRi whole words, CMD 0 (R172). -/
def State.regValue (s : State) : Reg → Word
  | .cmd => 0
  | .status => s.status.word
  | .arg0 => s.arg0
  | .arg1 => s.arg1
  | .result => s.result
  | .samples => s.samples
  | .channels => s.channels.setWidth 32
  | .rate => s.rate.setWidth 32
  | .levels => s.levels.setWidth 32
  | .subblocks => s.subblocks.setWidth 32
  | .blocksize => s.blocksizeWord
  | .samplesLeft => s.samplesLeft
  | .samplesReady => s.samplesReady
  | .rdptr => s.rdptr.setWidth 32
  | .pos => s.pos
  | .size => BitVec.ofNat 32 s.size
  | .bitbuf => s.bitbuf
  | .bitcnt => s.bitcnt.setWidth 32
  | .lvlptr => s.lvlptr.setWidth 32
  | .bufidx => s.bufidx.setWidth 32
  | .bufdata => if s.bufidx.toNat < Config.BUF_SLOTS then s.readSlot s.bufidx.toNat else 0
  | .ctx i => BitVec.ofNat 32 (s.ctxWidth i.val)
  | .scr i => s.readScr i.val

/-- A host read (R172): 0 where the access is not performed (R177) or the offset is reserved (R176). -/
def State.readReg (s : State) (offset width : Nat) : Word :=
  if accessPerformed offset width then
    match regAt offset with
    | some r => s.regValue r
    | none => 0
  else 0

/-- Whether a geometry write is performed (R174). -/
def State.geometryWritable (s : State) : Bool := !s.status.opened && !s.status.fault

/-- A host write to a register other than CMD (R173, R174); a read-only register ignores it. -/
def State.writeReg (s : State) (r : Reg) (v : Word) : State :=
  match r with
  | .arg0 => { s with arg0 := v }
  | .arg1 => { s with arg1 := v }
  | .bufidx => { s with bufidx := v.setWidth 20 }
  | .bufdata => if s.bufidx.toNat < Config.BUF_SLOTS then s.writeSlot s.bufidx.toNat v else s
  | .levels => if s.geometryWritable then { s.clearInits with levels := v.setWidth 12 } else s
  | .subblocks => if s.geometryWritable then { s.clearInits with subblocks := v.setWidth 4 } else s
  | .cmd => s
  | .status => s
  | .result => s
  | .samples => s
  | .channels => s
  | .rate => s
  | .blocksize => s
  | .samplesLeft => s
  | .samplesReady => s
  | .rdptr => s
  | .pos => s
  | .size => s
  | .bitbuf => s
  | .bitcnt => s
  | .lvlptr => s
  | .ctx _ => s
  | .scr _ => s

end Sys2Proof.Machine
end

