-- ==== Sys2Proof/Machine/HostPort.lean ====
section
/-! DEFINITION. What one action from outside does (spec/70_reset_and_hazards.md R214): a register access, a command
written to CMD (spec/10_state.md R22, spec/60_exceptions.md R189), an attached stream, hardware reset; and the fetch of
a payload code for the code port. Step.lean only chooses between them. -/

namespace Sys2Proof.Machine

/-- Whether a command may run after the platform changed the stream under a live instance: the spec gives such a run no
meaning (spec/93_implementation_defined.md U13) until reset; NOP reads and changes nothing (notes/assumptions/5.md). -/
def safeOnChangedStream (i : Instr) : Bool := i == .nop || i == .srst

/-- A decoded command (spec/60_exceptions.md R189 from line (3) on; NOP is line (1)). -/
def runCommand (i : Instr) (s : State) : Out :=
  if s.session = .changed ∧ !safeOnChangedStream i then .refused .streamChangedWhileLive
  else exec i s.markLive

/-- A write to CMD: an illegal word is refused by the block in every state (spec/30_encoding.md R77). -/
def writeCmd (word : Word) (s : State) : Out :=
  match decode (.command word) with
  | .ok i => runCommand i s
  | .error _ => .next (s.refuse .illegalCmd)

/-- A host register write (spec/44_system.md R173): ignored where the access is not performed (R177) or the offset is
reserved (R176). -/
def hostWrite (offset width : Nat) (v : Word) (s : State) : Out :=
  if accessPerformed offset width then
    match regAt offset with
    | some .cmd => writeCmd v s
    | some r => .next (s.writeReg r v)
    | none => .next s
  else .next s

/-- The platform attaches a stream (spec/20_memory.md R55). -/
def attach (bytes : List Byte) (s : State) : Out :=
  if bytes.length < 2 ^ 32 then .next (s.attachStream bytes) else .refused .streamTooLong

/-- One action from outside. -/
def perform (a : HostAction) (s : State) : Out :=
  match a with
  | .read offset width => .next (s.logRead (s.readReg offset width))
  | .write offset width v => hostWrite offset width v s
  | .attach bytes => attach bytes s
  | .hardwareReset => .next s.resetBlock

/-- The next action of the host, if it has one; with none the block waits (notes/assumptions/2.md). -/
def stepHost (s : State) : Out :=
  match s.actions with
  | [] => .next s
  | a :: rest => perform a (s.popAction rest)

/-- The fetch of one payload code: its bits, or CODE.EOS, and the state FetchBits leaves
(spec/41_unpacker.md R115, spec/30_encoding.md R83). -/
def fetchCode (s : State) : Encoding × State :=
  match fetchBits (s.ctxWidth s.lvlptr.toNat) s with
  | (none, s') => (.endOfStream, s')
  | (some u, s') => (.code (s.ctxWidth s.lvlptr.toNat) u.toNat, s')

/-- BU runs the code it wants: fetched at the width the context gives, decoded, executed. -/
def stepCode (s : State) : Out :=
  if s.contextLegal then
    match decode (fetchCode s).1 with
    | .ok i => exec i (fetchCode s).2.markLive
    | .error _ => .fault .illegalContext
  else .fault .illegalContext

/-- A code's bits as stream bytes, least significant byte first and bit 0 first in its byte (spec/20_memory.md R57). -/
def codeBytes : Nat → Nat → List Byte
  | 0, _ => []
  | n + 1, u => BitVec.ofNat 8 u :: codeBytes n (u / 256)

/-- BU made ready for one code at a given width: one live level at that width, an empty accumulator, the stream holding
exactly the given bytes (notes/assumptions/12.md). -/
def State.withCode (s : State) (width : Nat) (bytes : List Byte) : State :=
  { s with
    status := { s.status with uok := true }
    levels := 1
    subblocks := 1
    pos := 0
    bitbuf := 0
    bitcnt := 0
    lvlptr := 0
    ctx := s.ctx.set 0 (BitVec.ofNat 5 width)
    stream := bytes
    session := .live
    port := .wanted }

/-- A command word placed as the host's next action (notes/assumptions/2.md). DESIGN CHOICE, unsafe: in a state whose
stream was changed under a live instance, a run that the spec gives no meaning (spec/93_implementation_defined.md U13), the
state answered takes the stream as it stands for the attached one, `live` for `changed`, so that the next step runs the
command where a step of the machine refuses it (notes/assumptions/5.md). -/
def State.withCommand (s : State) (word : Word) : State :=
  { s with
    actions := .write 0 32 word :: s.actions
    port := .idle
    session := match s.session with | .changed => .live | x => x }

end Sys2Proof.Machine
end

