-- ==== Sys2Proof/Machine/Step.lean ====
section
/-! DEFINITION. One step of the machine, and where it fetches its next instruction. -/

namespace Sys2Proof.Machine

/-- One step: the code BU wants, where one is wanted, else the host's next action. -/
def step (s : State) : Host.Outcome State Fault Refusal :=
  match s.port with
  | .wanted => stepCode s
  | .idle => stepHost s
  | .returned _ => stepHost s

/-- The state with a table row's instruction placed where step fetches next: a command as the host's write to CMD; a
code in the stream under an initialised BU that wants it (notes/assumptions/2.md, 12.md). -/
def State.withFetchWord (s : State) (nbits w : Nat) : State :=
  match tableEncoding nbits w with
  | .command word => s.withCommand word
  | .code width u => s.withCode width (codeBytes 4 u)
  | .endOfStream => s.withCode Config.W_INIT []

end Sys2Proof.Machine
end

