-- ==== Sys2Proof/Safety.lean ====
section
/-! DEFINITION. What a safe run keeps: the invariants of spec/10_state.md R40, with what makes them inductive, over the
machine of Machine/Step.lean. -/

namespace Sys2Proof.Safety

open Sys2Proof.Machine

/-- R40(f): while FAULT is set, everything fatal-error entry resets stands at its reset value, and FCODE says why. The
host-owned ARG0, ARG1, BUFIDX and the buffer are excepted. -/
structure FaultStateClean (s : State) : Prop where
  flags : s.status.opened = false ∧ s.status.uok = false ∧ s.status.dok = false ∧ s.status.ufail = false ∧
    s.status.cause = .none
  code : s.status.fcode ≠ .none
  header : s.samples = 0 ∧ s.channels = 0 ∧ s.rate = 0 ∧ s.levels = 0 ∧ s.subblocks = 0
  cursors : s.samplesLeft = 0 ∧ s.samplesReady = 0 ∧ s.rdptr = 0 ∧ s.pos = 0
  unpacker : s.bitbuf = 0 ∧ s.bitcnt = 0 ∧ s.lvlptr = 0 ∧ s.ctx = Vector.replicate 16 0
  scratch : s.scr = Vector.replicate 16 0

/-- R40(e) for an open stream, but for "UOK" (`OpenHasUok` below): a UINIT that the host issues under an open stream may
fail and clear it (notes/assumptions/10.md); the context stays legal all the same. -/
structure OpenConsistent (s : State) : Prop where
  noFault : s.status.fault = false
  dok : s.status.dok = true
  context : s.contextLegal = true
  geometry : s.dGeomOK = true
  headerPresent : s.session ≠ .changed → Config.HDR_BYTES ≤ s.size
  conserved : s.samplesReady.toNat + s.samplesLeft.toNat ≤ s.samples.toNat
  readyInBlock : s.samplesReady.toNat ≤ s.blockSize
  cursorInBlock : s.rdptr.toNat + s.samplesReady.toNat ≤ s.blockSize

/-- R40(e)'s clause that OPENED implies UOK. A step keeps it unless it is the host's UINIT, which R112 lets fail under an
open stream (notes/assumptions/10.md). -/
def OpenHasUok (s : State) : Prop := s.status.opened = true → s.status.uok = true

/-- The machine's invariant. -/
structure Inv (s : State) : Prop where
  /-- The spaces keep their canonical form and their bounds (spec/20_memory.md R50). -/
  bufForm : s.buf.wf = true
  bufBounds : s.buf.below Config.BUF_SLOTS = true
  outForm : s.out.wf = true
  outBounds : s.out.below (2 ^ 32) = true
  /-- SIZE fits its register (spec/10_state.md R30). -/
  sizeFits : s.size < 2 ^ 32
  /-- R40(a); a stream changed under a live instance is excepted (spec/93_implementation_defined.md U13). -/
  posInStream : s.session ≠ .changed → s.pos.toNat ≤ s.size
  /-- Before the first command nothing has been read and nothing is open. -/
  freshStart : s.session = .fresh → s.pos = 0 ∧ s.status.opened = false
  /-- R40(b). -/
  accumulator : s.bitcnt.toNat ≤ 23 ∧ s.bitbuf.toNat < 2 ^ s.bitcnt.toNat
  /-- R40(c). -/
  unpackerReady : s.status.uok = true → s.contextLegal = true
  /-- R40(d). -/
  decoderReady : s.status.dok = true → s.dGeomOK = true
  /-- R40(e), but for its clause on UOK (notes/assumptions/10.md). -/
  openConsistent : s.status.opened = true → OpenConsistent s
  /-- R40(f). -/
  faultClean : s.status.fault = true → FaultStateClean s
  /-- R40(g). -/
  causeWithUfail : s.status.cause ≠ .none ↔ s.status.ufail = true
  /-- A code is wanted only of an initialised BU (spec/41_unpacker.md R122). -/
  portReady : s.port = .wanted → s.status.uok = true

/-- A run of `n` steps stays inside the invariant and meets no fault of the model. -/
def SafeRun (n : Nat) (s : State) : Prop :=
  match Host.Core.run Sys2Proof.core n s with
  | .next t => Inv t
  | .fault _ => False
  | .refused _ => True

end Sys2Proof.Safety
end

