-- ==== Sys2Proof/Certificates/Slice0/Obligations.lean ====
section
/-! DEFINITION. The statements for the provers, from the numbered rules of spec/. Helper definitions stand under
Sys2Proof.Claims; each `Obligations.<Name>` is one statement. -/

namespace Sys2Proof.Claims

open Sys2Proof.Machine Sys2Proof.Safety

/-- The table of spec/10_state.md R39, every row. An unspecified buffer slot is one that nothing has written. -/
structure ResetValues (t : State) : Prop where
  status : t.status = Status.reset ∧ t.status.word = 0
  operands : t.arg0 = 0 ∧ t.arg1 = 0 ∧ t.result = 0
  header : t.samples = 0 ∧ t.channels = 0 ∧ t.rate = 0 ∧ t.levels = 0 ∧ t.subblocks = 0 ∧ t.blocksizeWord = 0
  cursor : t.samplesLeft = 0 ∧ t.samplesReady = 0 ∧ t.rdptr = 0 ∧ t.pos = 0
  unpacker : t.bitbuf = 0 ∧ t.bitcnt = 0 ∧ t.lvlptr = 0
  context : ∀ i : Fin 16, t.ctx[i] = 0
  scratch : ∀ i : Fin 16, t.scr[i] = 0
  bufidx : t.bufidx = 0
  buffer : ∀ i, t.buf.read? i = none

/-- The instruction is a command (spec/30_encoding.md R76). -/
def IsCommand (i : Instr) : Prop := ∃ w, encode i = .command w

/-- The header of spec/30_encoding.md R70, R71 stands at the start of the stream, with these field values. -/
structure Header (s : State) (sig n c r g : Nat) : Prop where
  signature : s.memRead 0 4 = some sig
  samples : s.memRead 4 4 = some n
  channels : s.memRead 8 2 = some c
  rate : s.memRead 10 2 = some r
  geometry : s.memRead 12 2 = some g

/-- The geometry word names a geometry both units accept and the payload holds the least a block can occupy
(spec/41_unpacker.md R112, spec/42_decoder.md R131). -/
def GoodGeometry (s : State) (g : Nat) : Prop :=
  1 ≤ g / 16 ∧ g / 16 ≤ 16 ∧ 1 ≤ g % 16 ∧ g % 16 * 2 ≤ 8 * (s.size - 14)

/-- The context file UnpackerResetState leaves for `levels` live levels (spec/41_unpacker.md R113). -/
def freshContext (levels : Nat) : Vector (BitVec 5) 16 :=
  Vector.ofFn fun i : Fin 16 => if i.val < levels then 4 else 0

/-- What OPEN leaves when every check passes (spec/40_header_open.md R100). -/
def openedState (s : State) (n c r g : Nat) : State :=
  { s with
    status := { s.status with
      opened := true, uok := true, dok := true, ufail := false, cause := .none, err := .ok }
    result := 1
    samples := BitVec.ofNat 32 n
    channels := BitVec.ofNat 16 c
    rate := BitVec.ofNat 16 r
    levels := BitVec.ofNat 12 (g / 16)
    subblocks := BitVec.ofNat 4 (g % 16)
    samplesLeft := BitVec.ofNat 32 n
    samplesReady := 0
    rdptr := 0
    pos := 14
    bitbuf := 0
    bitcnt := 0
    lvlptr := 0
    ctx := freshContext (g / 16)
    scr := Vector.replicate 16 0 }

/-- `n` codes read in order with no buffer in sight: the values, why the reading stopped early if it did, and the state
BU is left in (spec/41_unpacker.md R116). -/
def readCodes : Nat → State → List Int × Option Cause × State
  | 0, s => ([], none, s)
  | n + 1, s =>
    match readCode s with
    | (.ok v, s') => (v :: (readCodes n s').1, (readCodes n s').2)
    | (.eos, s') => ([], some .endOfStream, s')
    | (.rsv, s') => ([], some .reservedCode, s')

/-- The payload bits still to come, oldest first: the accumulator's valid bits, then the stream's bytes from POS, each
from its least significant bit (spec/20_memory.md R57, spec/10_state.md R35). -/
def pendingBits (s : State) : List Bool :=
  (List.range s.bitcnt.toNat).map s.bitbuf.getLsbD ++
    (s.stream.drop s.pos.toNat).flatMap fun b => (List.range 8).map b.getLsbD

/-- R40(a) and (b) of spec/10_state.md: the cursor lies in the stream and the accumulator holds its valid bits only. -/
structure CursorOK (s : State) : Prop where
  inStream : s.pos.toNat ≤ s.size ∧ s.size < 2 ^ 32
  valid : s.bitcnt.toNat ≤ 23 ∧ s.bitbuf.toNat < 2 ^ s.bitcnt.toNat

/-- The closed form of spec/42_decoder.md R135 at output index `p`, before it is wrapped to 32 bits: `S` coefficients `c`,
`L` levels. -/
def interpolated (L S : Nat) (c : Nat → Int) (p : Nat) : Int :=
  (2 ^ L - ((p % 2 ^ L : Nat) : Int)) * c (p / 2 ^ L) + ((p % 2 ^ L : Nat) : Int) * c (min (p / 2 ^ L + 1) (S - 1))

/-- A READ may run: the stream is open, and a context stands ready for the codes it may need
(spec/60_exceptions.md R188, spec/10_state.md R40). UOK is not asked for (notes/assumptions/10.md). -/
structure Readable (s : State) : Prop where
  noFault : s.status.fault = false
  opened : s.status.opened = true
  context : s.contextLegal = true

/-- READ's operands in place (spec/30_encoding.md R78). -/
def withArgs (s : State) (count base : Word) : State := { s with arg0 := count, arg1 := base }

/-- What a refusal by the block leaves (spec/60_exceptions.md R188). -/
def refused (s : State) (code : ErrCode) : State := { s with result := 0, status := { s.status with err := code } }

/-- A well-formed GROW code of width `w`, read at the width the context gives, has R117's effect. -/
def GrowEffect (w : Nat) (mk : BitVec w → Instr) : Prop :=
  ∀ (u : BitVec w) (s : State), growField u = true → s.ctxWidth s.lvlptr.toNat = w → s.contextLegal = true →
    exec (mk u) s = .next { s with
      ctx := s.ctx.set s.lvlptr.toNat (BitVec.ofNat 5 (min (w + 1) 16)) s.lvlptr.isLt
      lvlptr := BitVec.ofNat 4 ((s.lvlptr.toNat + 1) % s.levels.toNat)
      port := .returned (.ok u.toInt) }

/-- A well-formed HOLD code of width `w`, read at the width the context gives, has R118's effect. -/
def HoldEffect (w : Nat) (mk : BitVec w → Instr) : Prop :=
  ∀ (u : BitVec w) (s : State), holdField u = true → s.ctxWidth s.lvlptr.toNat = w → s.contextLegal = true →
    exec (mk u) s = .next { s with
      lvlptr := BitVec.ofNat 4 ((s.lvlptr.toNat + 1) % s.levels.toNat)
      port := .returned (.ok u.toInt) }

/-- A well-formed SHRINK code of width `w`, read at the width the context gives, has R119's effect. -/
def ShrinkEffect (w : Nat) (mk : BitVec w → Instr) : Prop :=
  ∀ (u : BitVec w) (s : State), shrinkField u = true → s.ctxWidth s.lvlptr.toNat = w → s.contextLegal = true →
    exec (mk u) s = .next { s with
      ctx := s.ctx.set s.lvlptr.toNat (BitVec.ofNat 5 (max (w - 1) 2)) s.lvlptr.isLt
      lvlptr := BitVec.ofNat 4 ((s.lvlptr.toNat + 1) % s.levels.toNat)
      port := .returned (.ok u.toInt) }

/-- The RSV code of width `w` has R120's effect: nothing but the answer `rsv`. -/
def RsvEffect (i : Instr) : Prop := ∀ s : State, exec i s = .next { s with port := .returned .rsv }

end Sys2Proof.Claims

open Sys2Proof Sys2Proof.Machine Sys2Proof.Safety Sys2Proof.Claims

/-! ## Encodings -/

/-- R76, R80, R88: the decoder reads back every well-formed instruction from the encoder's bits, with every operand. -/
def Obligations.EncodeThenDecode : Prop := ∀ i : Instr, i.wf = true → decode (encode i) = .ok i

/-- R88: what the decoder accepts is a well-formed instruction, and those bits are its one encoding. -/
def Obligations.DecodeThenEncode : Prop :=
  ∀ (e : Encoding) (i : Instr), decode e = .ok i → encode i = e ∧ i.wf = true

/-- R76, R82: words written out from the tables decode to the rows they stand for. -/
def Obligations.SampleWordsDecode : Prop :=
  decode (.command 0x00000001) = .ok .openStream ∧ decode (.command 0x0000000F) = .ok .srst ∧
  decode (.code 4 0b0101) = .ok (.codeGrowW4 5) ∧ decode (.code 4 0b1110) = .ok (.codeHoldW4 14) ∧
  decode (.code 5 0b11111) = .ok (.codeShrinkW5 31) ∧ decode (.code 4 0b1000) = .ok .codeRsvW4 ∧
  decode .endOfStream = .ok .codeEos

/-- R77: a reserved opcode, or any of bits 31:8 set, makes a word illegal, whatever the opcode, and every other word is
legal; the illegal word executes nothing but `refuse(ILLEGAL_CMD)`, in the FAULT state too. -/
def Obligations.IllegalWordsAreRefused : Prop :=
  ∀ (s : State) (w : Word) (rest : List HostAction),
    ((w.toNat / 256 ≠ 0 ∨ (0x0A ≤ w.toNat % 256 ∧ w.toNat % 256 ≤ 0x0E) ∨ 0x10 ≤ w.toNat % 256) →
      s.port ≠ .wanted → s.actions = .write 0 32 w :: rest →
      step s = .next (refused { s with actions := rest } .illegalCmd)) ∧
    (¬(w.toNat / 256 ≠ 0 ∨ (0x0A ≤ w.toNat % 256 ∧ w.toNat % 256 ≤ 0x0E) ∨ 0x10 ≤ w.toNat % 256) →
      ∃ i, decode (.command w) = .ok i)

/-- R82, R89: for every width the four classes partition the patterns; width 2 has no SHRINK. -/
def Obligations.CodeClassesPartition : Prop :=
  ∀ (w : Nat) (u : BitVec w), 2 ≤ w → w ≤ 16 →
    (isReserved u || growField u || holdField u || shrinkField u) = true ∧
    (isReserved u && growField u || isReserved u && holdField u || isReserved u && shrinkField u ||
      growField u && holdField u || growField u && shrinkField u || holdField u && shrinkField u) = false ∧
    (w = 2 → shrinkField u = false)

/-- R88 and R116: the row the decoder finds by the table's unsigned ranges does to the state what ReadCode's branch by
magnitude does. That exec puts ReadCode's answer on `port` is the MODEL's choice (notes/assumptions/6.md). -/
def Obligations.DecodedRowIsReadCodesBranch : Prop :=
  ∀ (w : Nat) (u : BitVec w) (s : State), 2 ≤ w → w ≤ 16 → s.contextLegal = true →
    ∃ i, decode (.code w u.toNat) = .ok i ∧ i.wf = true ∧
      exec i s = .next { (classify u s).2 with port := .returned (classify u s).1 }

/-- R71, R72: how the header's bytes make its fields. -/
def Obligations.HeaderFieldsFromBytes : Prop :=
  ∀ (s : State) (b : Fin 14 → Byte) (payload : List Byte), s.stream = List.ofFn b ++ payload →
    Header s
      ((b 0).toNat + 2 ^ 8 * (b 1).toNat + 2 ^ 16 * (b 2).toNat + 2 ^ 24 * (b 3).toNat)
      ((b 4).toNat + 2 ^ 8 * (b 5).toNat + 2 ^ 16 * (b 6).toNat + 2 ^ 24 * (b 7).toNat)
      ((b 8).toNat + 2 ^ 8 * (b 9).toNat)
      ((b 10).toNat + 2 ^ 8 * (b 11).toNat)
      ((b 12).toNat + 2 ^ 8 * (b 13).toNat) ∧
    (geometrySubblocks ((b 12).toNat + 2 ^ 8 * (b 13).toNat)).toNat = (b 12).toNat % 16 ∧
    (geometryLevels ((b 12).toNat + 2 ^ 8 * (b 13).toNat)).toNat = (b 12).toNat / 16 + 16 * (b 13).toNat

/-! ## Steps and the register space -/

/-- A step runs the decoded command: it takes the host's write to CMD off the list, notes that a command has run (the
model's own `session`, notes/assumptions/5.md), and is exec of that command. -/
def Obligations.StepRunsDecodedCommand : Prop :=
  ∀ (s : State) (rest : List HostAction) (w : Word) (i : Instr),
    s.port ≠ .wanted → s.actions = .write 0 32 w :: rest → decode (.command w) = .ok i →
    (s.session = .changed → i = .nop ∨ i = .srst) →
    step s = exec i { s with
      actions := rest, session := if s.session = .changed then .changed else .live }

/-- The MODEL's choice (notes/assumptions/6.md; the spec reads codes inside atomic commands only): a step with a code wanted
runs the decoded code: its bits fetched by FetchBits (R115), the row of R88, then exec; under a legal context there always
is such a row. -/
def Obligations.StepRunsDecodedCode : Prop :=
  ∀ s : State, s.port = .wanted → s.contextLegal = true →
    ∃ i, decode (fetchCode s).1 = .ok i ∧ i.wf = true ∧
      step s = exec i { (fetchCode s).2 with
        session := if s.session = .changed then .changed else .live }

/-- The MODEL's choice (notes/assumptions/2.md): with no host action pending and no code wanted, a step changes
nothing. -/
def Obligations.StepWithoutActionWaits : Prop :=
  ∀ s : State, s.port ≠ .wanted → s.actions = [] → step s = .next s

/-- A host read answers the register's value and has no other effect, in every state (R172). -/
def Obligations.HostReadHasNoSideEffect : Prop :=
  ∀ (s : State) (offset width : Nat) (rest : List HostAction),
    s.port ≠ .wanted → s.actions = .read offset width :: rest →
    step s = .next { s with actions := rest, readLog := s.readLog ++ [s.readReg offset width] }

/-- R21, R22, R27, R32, R172: what each defined offset reads. -/
def Obligations.RegisterMapReads : Prop :=
  ∀ s : State,
    s.readReg 0x00 32 = 0 ∧ s.readReg 0x04 32 = s.status.word ∧ s.readReg 0x08 32 = s.arg0 ∧
    s.readReg 0x0C 32 = s.arg1 ∧ s.readReg 0x10 32 = s.result ∧ s.readReg 0x14 32 = s.samples ∧
    s.readReg 0x18 32 = s.channels.setWidth 32 ∧ s.readReg 0x1C 32 = s.rate.setWidth 32 ∧
    s.readReg 0x20 32 = s.levels.setWidth 32 ∧ s.readReg 0x24 32 = s.subblocks.setWidth 32 ∧
    s.readReg 0x28 32 =
      (if 1 ≤ s.levels.toNat ∧ s.levels.toNat ≤ 16 ∧ 1 ≤ s.subblocks.toNat ∧
          2 ^ s.levels.toNat * s.subblocks.toNat ≤ 983040
        then BitVec.ofNat 32 (2 ^ s.levels.toNat * s.subblocks.toNat) else 0) ∧
    s.readReg 0x2C 32 = s.samplesLeft ∧ s.readReg 0x30 32 = s.samplesReady ∧
    s.readReg 0x34 32 = s.rdptr.setWidth 32 ∧ s.readReg 0x38 32 = s.pos ∧
    s.readReg 0x3C 32 = BitVec.ofNat 32 s.stream.length ∧ s.readReg 0x40 32 = s.bitbuf ∧
    s.readReg 0x44 32 = s.bitcnt.setWidth 32 ∧ s.readReg 0x48 32 = s.lvlptr.setWidth 32 ∧
    s.readReg 0x4C 32 = s.bufidx.setWidth 32 ∧
    s.readReg 0x50 32 = (if s.bufidx.toNat < 983040 then s.readSlot s.bufidx.toNat else 0) ∧
    (∀ i : Fin 16, s.readReg (0x80 + 4 * i) 32 = (s.ctx[i]).setWidth 32) ∧
    (∀ i : Fin 16, s.readReg (0xC0 + 4 * i) 32 = s.scr[i])

/-- R173: a write stores into ARG0, ARG1, BUFIDX (20 bits) and, in range, the buffer slot BUFIDX names; every read-only
register ignores it. In every state, FAULT and OPENED included. -/
def Obligations.HostWritesOperandsAndWindow : Prop :=
  ∀ (s : State) (offset : Nat) (v : Word) (rest : List HostAction),
    s.port ≠ .wanted → s.actions = .write offset 32 v :: rest →
    (offset = 0x08 → step s = .next { s with actions := rest, arg0 := v }) ∧
    (offset = 0x0C → step s = .next { s with actions := rest, arg1 := v }) ∧
    (offset = 0x4C → step s = .next { s with actions := rest, bufidx := BitVec.ofNat 20 v.toNat }) ∧
    (offset = 0x50 → s.bufidx.toNat < 983040 →
      ∃ t, step s = .next t ∧ t = { s with actions := rest, buf := t.buf } ∧
        t.readSlot s.bufidx.toNat = v ∧ ∀ i, i ≠ s.bufidx.toNat → t.readSlot i = s.readSlot i) ∧
    (offset = 0x50 → 983040 ≤ s.bufidx.toNat → step s = .next { s with actions := rest }) ∧
    (offset ∈ [0x04, 0x10, 0x14, 0x18, 0x1C, 0x28, 0x2C, 0x30, 0x34, 0x38, 0x3C, 0x40, 0x44, 0x48] ∨
        (0x80 ≤ offset ∧ offset < 0x100 ∧ offset % 4 = 0) →
      step s = .next { s with actions := rest })

/-- R174: a geometry write is performed only while not open and not faulted; performed, it keeps the low bits and clears
UOK and DOK; otherwise it is ignored. -/
def Obligations.GeometryWritesAreGated : Prop :=
  ∀ (s : State) (v : Word) (rest : List HostAction), s.port ≠ .wanted →
    (s.actions = .write 0x20 32 v :: rest →
      step s = .next (if s.status.opened = false ∧ s.status.fault = false
        then { s with actions := rest, levels := BitVec.ofNat 12 v.toNat,
                      status := { s.status with uok := false, dok := false } }
        else { s with actions := rest })) ∧
    (s.actions = .write 0x24 32 v :: rest →
      step s = .next (if s.status.opened = false ∧ s.status.fault = false
        then { s with actions := rest, subblocks := BitVec.ofNat 4 v.toNat,
                      status := { s.status with uok := false, dok := false } }
        else { s with actions := rest }))

/-- R176: reserved offsets read 0 and ignore writes, and no state changes. -/
def Obligations.ReservedOffsetsHoldNothing : Prop :=
  ∀ (s : State) (offset : Nat) (v : Word) (rest : List HostAction),
    offset % 4 = 0 → (0x54 ≤ offset ∧ offset ≤ 0x7C ∨ 0x100 ≤ offset) → s.port ≠ .wanted →
    (s.actions = .read offset 32 :: rest →
      step s = .next { s with actions := rest, readLog := s.readLog ++ [0] }) ∧
    (s.actions = .write offset 32 v :: rest → step s = .next { s with actions := rest })

/-- R177: an access that is not 32 bits wide or not at a multiple of 4 is not performed: a read returns 0, a write is
ignored, so it starts no command. -/
def Obligations.MalformedAccessesAreNotPerformed : Prop :=
  ∀ (s : State) (offset width : Nat) (v : Word) (rest : List HostAction),
    (width ≠ 32 ∨ offset % 4 ≠ 0) → s.port ≠ .wanted →
    (s.actions = .read offset width :: rest →
      step s = .next { s with actions := rest, readLog := s.readLog ++ [0] }) ∧
    (s.actions = .write offset width v :: rest → step s = .next { s with actions := rest })

/-- R23: where STATUS's fields stand in its word; the reserved bits are 0. -/
def Obligations.StatusWordLayout : Prop :=
  ∀ t : Status,
    t.word.toNat = t.opened.toNat + 2 * t.uok.toNat + 4 * t.dok.toNat + 8 * t.ufail.toNat +
      16 * (match t.cause with | .none => 0 | .endOfStream => 1 | .reservedCode => 2) +
      64 * t.fault.toNat +
      256 * (match t.err with
        | .ok => 0 | .format => 1 | .init => 2 | .io => 3 | .illegalCmd => 4 | .badState => 5 | .badArg => 6
        | .faulted => 7) +
      4096 * (match t.fcode with | .none => 0 | .format => 1 | .init => 2 | .io => 3) +
      65536 * (match t.fsub with | .none => 0 | .bu => 1 | .re => 2)

/-! ## Reset, errors, the invariant -/

/-- R39, R201: right after reset, after hardware reset in any state, and after SRST in any state, every register and file
has R39's value. -/
def Obligations.ResetLeavesResetValues : Prop :=
  ResetValues State.reset ∧
  (∀ (s : State) (rest : List HostAction), s.port ≠ .wanted → s.actions = .hardwareReset :: rest →
    ∃ t, step s = .next t ∧ ResetValues t) ∧
  (∀ s : State, ∃ t, exec .srst s = .next t ∧ ResetValues t)

/-- R171: SRST is legal in every state, gives every register and file its reset value, and leaves the attached stream. -/
def Obligations.SrstResetsInEveryState : Prop :=
  encode .srst = .command 0x0000000F ∧
  ∀ s : State, ∃ t, exec .srst s = .next t ∧ ResetValues t ∧ t.stream = s.stream ∧ t.size = s.size

/-- The MODEL's reading (notes/assumptions/13.md): SRST and hardware reset leave OUT, the host's pending actions and what
its reads returned, and are the same effect (R200). -/
def Obligations.ResetsLeaveTheHostsSide : Prop :=
  ∀ (s : State) (rest : List HostAction), s.port ≠ .wanted → s.actions = .hardwareReset :: rest →
    ∃ t, step s = .next t ∧ exec .srst { s with actions := rest } = .next t ∧
      t.out = s.out ∧ t.actions = rest ∧ t.readLog = s.readLog ∧ t.stream = s.stream

/-- R186: fatal-error entry. Everything of R39 takes its reset value but ARG0, ARG1, BUFIDX and the buffer; FAULT, FCODE,
FSUB and ERR record the cause; RESULT is 0; nothing outside the block changes. -/
def Obligations.FatalErrorEntry : Prop :=
  ∀ (s : State) (e : FatalError), ∃ t, s.raise e = t ∧
    t.arg0 = s.arg0 ∧ t.arg1 = s.arg1 ∧ t.bufidx = s.bufidx ∧ t.buf = s.buf ∧ (∀ i, t.readSlot i = s.readSlot i) ∧
    t.stream = s.stream ∧ t.out = s.out ∧ t.actions = s.actions ∧ t.readLog = s.readLog ∧ t.port = s.port ∧
    t.result = 0 ∧ FaultStateClean t ∧
    t.status.fault = true ∧
    t.status.fcode = (match e with | .format => .format | .initialization _ => .init | .io => .io) ∧
    t.status.err = (match e with | .format => .format | .initialization _ => .init | .io => .io) ∧
    t.status.fsub = (match e with | .initialization unit => unit | _ => .none)

/-- R187, R188: in the FAULT state every command but NOP and SRST is refused with FAULTED, and nothing else changes. -/
def Obligations.FaultStateRefusesCommands : Prop :=
  ∀ (i : Instr) (s : State), IsCommand i → i ≠ .nop → i ≠ .srst → s.status.fault = true →
    exec i s = .next (refused s .faulted)

/-- R188, R189: the state and argument preconditions of every command, outside the FAULT state, and what a refusal
writes. -/
def Obligations.CommandPreconditions : Prop :=
  ∀ s : State, s.status.fault = false →
    (s.status.opened = true → exec .openStream s = .next (refused s .badState)) ∧
    (s.status.uok = false → exec .ureset s = .next (refused s .badState) ∧
      exec .getblk s = .next (refused s .badState)) ∧
    (s.status.dok = false → exec .decode s = .next (refused s .badState)) ∧
    (s.status.dok = true → (s.arg0 = 0 ∨ 983040 < s.arg0.toNat * 2 ^ s.levels.toNat) →
      exec .decode s = .next (refused s .badArg)) ∧
    (s.status.opened = false → exec .refill s = .next (refused s .badState) ∧
      exec .read s = .next (refused s .badState) ∧ exec .rewind s = .next (refused s .badState)) ∧
    (s.status.opened = true → (s.samplesReady ≠ 0 ∨ s.samplesLeft = 0) →
      exec .refill s = .next (refused s .badState))

/-- The MODEL's choice (notes/assumptions/5.md): a command other than NOP and SRST after the stream was changed under a
live instance is refused by the model, since the spec gives such a run no meaning (U13). -/
def Obligations.ChangedStreamStopsCommands : Prop :=
  ∀ (s : State) (rest : List HostAction) (w : Word) (i : Instr),
    s.port ≠ .wanted → s.actions = .write 0 32 w :: rest → decode (.command w) = .ok i →
    s.session = .changed → i ≠ .nop → i ≠ .srst → step s = .refused .streamChangedWhileLive

/-- The platform's attaching of a stream (R55): the stream is replaced, and the MODEL's `session` notes a change under a
live instance (notes/assumptions/5.md); one that SIZE cannot say is the MODEL's refusal (notes/assumptions/1.md). -/
def Obligations.AttachReplacesTheStream : Prop :=
  ∀ (s : State) (bytes : List Byte) (rest : List HostAction),
    s.port ≠ .wanted → s.actions = .attach bytes :: rest →
    (bytes.length < 2 ^ 32 → step s = .next { s with
      actions := rest, stream := bytes, session := if s.session = .fresh then .fresh else .changed }) ∧
    (2 ^ 32 ≤ bytes.length → step s = .refused .streamTooLong)

/-- The MODEL's choice (notes/assumptions/11.md): where a code would be read over a context, or DECODE would run over a
geometry, that R40 excludes, the model stops by name; `NoStepStops` says that no state with the invariant is one. -/
def Obligations.ExcludedStatesStop : Prop :=
  ∀ s : State, s.status.fault = false →
    (s.contextLegal = false →
      (s.port = .wanted → step s = .fault .illegalContext) ∧
      (∀ w u i, decode (.code w u) = .ok i → u ≠ 2 ^ (w - 1) → exec i s = .fault .illegalContext) ∧
      (s.status.uok = true → s.status.ufail = false → exec .getblk s = .fault .illegalContext) ∧
      (s.status.opened = true → s.status.ufail = false → s.samplesLeft ≠ 0 →
        (s.samplesReady = 0 → exec .refill s = .fault .illegalContext) ∧
        (s.samplesReady.toNat < s.arg0.toNat → exec .read s = .fault .illegalContext))) ∧
    (s.dGeomOK = false → s.status.dok = true → 1 ≤ s.arg0.toNat → s.arg0.toNat * 2 ^ s.levels.toNat ≤ 983040 →
      exec .decode s = .fault .illegalGeometry)

/-- The machine right after reset has the invariant, which is R40's but for OPENED implies UOK (notes/assumptions/10.md). -/
def Obligations.ResetHasTheInvariant : Prop := Inv State.reset

/-- R40: every step keeps the invariant, from every state that has it. `Inv` drops one clause of R40(e), OPENED implies UOK,
which a UINIT under an open stream may break (DEDUCED: notes/assumptions/10.md); `OpenKeepsUokUnlessUinit` says what keeps
that clause. -/
def Obligations.StepKeepsTheInvariant : Prop :=
  ∀ s t : State, Inv s → step s = .next t → Inv t

/-- R40(e)'s clause that OPENED implies UOK: it holds at reset, and every step keeps it but the host's UINIT
(DEDUCED: notes/assumptions/10.md). -/
def Obligations.OpenKeepsUokUnlessUinit : Prop :=
  OpenHasUok State.reset ∧
  ∀ s t : State, OpenHasUok s → (∀ rest, s.actions ≠ .write 0 32 2 :: rest) → step s = .next t → OpenHasUok t

/-- From a state with the invariant whose stream was not changed under it, no step stops: every host action and every code
has a next state, but for a stream longer than SIZE can say (the MODEL's refusal, notes/assumptions/1.md). -/
def Obligations.NoStepStops : Prop :=
  ∀ s : State, Inv s → s.session ≠ .changed →
    (∀ bytes rest, s.actions = .attach bytes :: rest → bytes.length < 2 ^ 32) → ∃ t, step s = .next t

/-! ## System commands and OPEN -/

/-- R170: NOP is legal in every state and changes nothing, ERR included. -/
def Obligations.NopChangesNothing : Prop :=
  encode .nop = .command 0x00000000 ∧ ∀ s : State, exec .nop s = .next s

/-- R100: OPEN on a good header. -/
def Obligations.OpenAcceptsGoodHeader : Prop :=
  ∀ (s : State) (n c r g : Nat),
    s.status.fault = false → s.status.opened = false → s.size < 2 ^ 32 → Header s Config.MAGIC n c r g →
    GoodGeometry s g → exec .openStream s = .next (openedState s n c r g)

/-- R100, R181 to R183: OPEN's fatal errors, in the order of its checks. -/
def Obligations.OpenRaisesFatalErrors : Prop :=
  ∀ s : State, s.status.fault = false → s.status.opened = false → s.size < 2 ^ 32 →
    (s.size < 4 → exec .openStream s = .next (s.raise .format)) ∧
    (∀ sig, s.memRead 0 4 = some sig → sig ≠ Config.MAGIC → exec .openStream s = .next (s.raise .format)) ∧
    (s.memRead 0 4 = some Config.MAGIC → s.size < 14 → exec .openStream s = .next (s.raise .io)) ∧
    (∀ n c r g, Header s Config.MAGIC n c r g → ¬GoodGeometry s g →
      exec .openStream s = .next (s.raise (.initialization .bu)))

/-- R104: the header round trip: after OPEN of a valid header the registers hold its fields and BLOCKSIZE reads
`(1 << L) * S`; a header whose geometry is not valid fails with InitializationError. -/
def Obligations.HeaderRoundTrip : Prop :=
  ∀ (s : State) (n c r g : Nat),
    s.status.fault = false → s.status.opened = false → s.size < 2 ^ 32 → Header s Config.MAGIC n c r g →
    (GoodGeometry s g → ∃ t, exec .openStream s = .next t ∧
      (t.readReg 0x28 32).toNat = 2 ^ (g / 16) * (g % 16) ∧ (t.readReg 0x14 32).toNat = n ∧
      (t.readReg 0x18 32).toNat = c ∧ (t.readReg 0x1C 32).toNat = r) ∧
    (¬GoodGeometry s g → ∃ t, exec .openStream s = .next t ∧ t.status.fault = true ∧ t.status.fcode = .init ∧
      t.status.err = .init)

/-! ## BU -/

/-- R112, R113: UINIT, its refusal in the FAULT state, its success and its failure. -/
def Obligations.UinitInitialisesOrFails : Prop :=
  encode .uinit = .command 0x00000002 ∧
  ∀ s : State,
    (s.status.fault = true → exec .uinit s = .next (refused s .faulted)) ∧
    (s.status.fault = false →
      (1 ≤ s.levels.toNat ∧ s.levels.toNat ≤ 16 ∧ 1 ≤ s.subblocks.toNat ∧ s.subblocks.toNat ≤ 15 ∧
        s.subblocks.toNat * 2 ≤ 8 * (s.size - s.pos.toNat)) →
      exec .uinit s = .next { s with
        status := { s.status with uok := true, ufail := false, cause := .none, err := .ok }
        result := 1, ctx := freshContext s.levels.toNat, lvlptr := 0, bitbuf := 0, bitcnt := 0 }) ∧
    (s.status.fault = false →
      ¬(1 ≤ s.levels.toNat ∧ s.levels.toNat ≤ 16 ∧ 1 ≤ s.subblocks.toNat ∧ s.subblocks.toNat ≤ 15 ∧
        s.subblocks.toNat * 2 ≤ 8 * (s.size - s.pos.toNat)) →
      exec .uinit s = .next { s with status := { s.status with uok := false, err := .ok }, result := 0 })

/-- R114: URESET, its two refusals, and its effect: the context is put back and POS stays, so the bits in the accumulator
are lost (R206). -/
def Obligations.UresetRestoresTheContext : Prop :=
  encode .ureset = .command 0x00000003 ∧
  ∀ s : State,
    (s.status.fault = true → exec .ureset s = .next (refused s .faulted)) ∧
    (s.status.fault = false → s.status.uok = false → exec .ureset s = .next (refused s .badState)) ∧
    (s.status.fault = false → s.status.uok = true →
      exec .ureset s = .next { s with
        status := { s.status with ufail := false, cause := .none, err := .ok }
        result := 1, ctx := freshContext s.levels.toNat, lvlptr := 0, bitbuf := 0, bitcnt := 0 })

/-- R115, R57: FetchBits takes the oldest `w` payload bits, the first as bit 0; with fewer bits to come it takes the
stream's last bytes into the accumulator and answers eos. It fetches no byte it does not need. -/
def Obligations.FetchBitsTakesOldestBitsFirst : Prop :=
  ∀ (s : State) (w : Nat), CursorOK s → 2 ≤ w → w ≤ 16 →
    (w ≤ (pendingBits s).length → ∃ u t, fetchBits w s = (some u, t) ∧
      (∀ i (h : i < (pendingBits s).length), i < w → u.getLsbD i = (pendingBits s)[i]) ∧
      pendingBits t = (pendingBits s).drop w ∧ CursorOK t ∧ (t.pos = s.pos ∨ t.bitcnt.toNat < 8) ∧
      t = { s with pos := t.pos, bitbuf := t.bitbuf, bitcnt := t.bitcnt }) ∧
    ((pendingBits s).length < w → ∃ t, fetchBits w s = (none, t) ∧ pendingBits t = pendingBits s ∧ CursorOK t ∧
      t.pos.toNat = s.size ∧ t = { s with pos := t.pos, bitbuf := t.bitbuf, bitcnt := t.bitcnt })

/-- R125: what ReadCode keeps and what bounds its value. -/
def Obligations.ReadCodeStaysInBounds : Prop :=
  ∀ s : State, s.contextLegal = true → CursorOK s →
    let w := s.ctxWidth s.lvlptr.toNat
    let t := (readCode s).2
    t.contextLegal = true ∧ CursorOK t ∧ (∀ i, t.ctxWidth i ≤ s.ctxWidth i + 1) ∧
    (∀ v, (readCode s).1 = .ok v → v.natAbs ≤ 2 ^ (w - 1) - 1 ∧ v.natAbs ≤ 32767) ∧
    t = { s with pos := t.pos, bitbuf := t.bitbuf, bitcnt := t.bitcnt, ctx := t.ctx, lvlptr := t.lvlptr }

/-- R122: GETBLK writes the values of the next SUBBLOCKS codes to the first slots, in order, and stops at the first code
that fails, with UFAIL and CAUSE set and nothing rolled back; every other slot keeps its value. -/
def Obligations.GetblkExtractsABlock : Prop :=
  encode .getblk = .command 0x00000004 ∧
  ∀ s : State, s.status.fault = false → s.status.uok = true → s.status.ufail = false → s.contextLegal = true →
    let r := readCodes s.subblocks.toNat s
    ∃ t, exec .getblk s = .next t ∧
      (r.2.1 = none → r.1.length = s.subblocks.toNat ∧ t.result = 1 ∧
        t.status = { s.status with err := .ok }) ∧
      (∀ c, r.2.1 = some c → r.1.length < s.subblocks.toNat ∧ t.result = 0 ∧
        t.status = { s.status with ufail := true, cause := c, err := .ok }) ∧
      (∀ j (h : j < r.1.length), t.readSlot j = BitVec.ofInt 32 r.1[j]) ∧
      (∀ j, r.1.length ≤ j → t.readSlot j = s.readSlot j) ∧
      t = { r.2.2 with buf := t.buf, status := t.status, result := t.result }

/-- R124: once UFAIL is set, GETBLK returns 0 and reads and changes nothing else. -/
def Obligations.GetblkFailureIsSticky : Prop :=
  ∀ s : State, s.status.fault = false → s.status.uok = true → s.status.ufail = true →
    exec .getblk s = .next { s with result := 0, status := { s.status with err := .ok } }

/-- R34, R83, R123: a successful GETBLK moves the level pointer by SUBBLOCKS, modulo LEVELS, and is not reset at the
block's end. -/
def Obligations.GetblkCarriesTheLevelPointer : Prop :=
  ∀ s : State, s.status.fault = false → s.status.uok = true → s.status.ufail = false → s.contextLegal = true →
    ∃ t, exec .getblk s = .next t ∧
      (t.result = 1 → t.lvlptr.toNat = (s.lvlptr.toNat + s.subblocks.toNat) % s.levels.toNat)

/-! ## RE -/

/-- R132: DINIT, its refusal in the FAULT state, its success and its failure. -/
def Obligations.DinitInitialisesOrFails : Prop :=
  encode .dinit = .command 0x00000005 ∧
  ∀ s : State,
    (s.status.fault = true → exec .dinit s = .next (refused s .faulted)) ∧
    (s.status.fault = false →
      (1 ≤ s.levels.toNat ∧ s.levels.toNat ≤ 16 ∧ 1 ≤ s.subblocks.toNat ∧
        2 ^ s.levels.toNat * s.subblocks.toNat ≤ 983040) →
      exec .dinit s = .next { s with
        status := { s.status with dok := true, err := .ok }, result := 1, scr := Vector.replicate 16 0 }) ∧
    (s.status.fault = false →
      ¬(1 ≤ s.levels.toNat ∧ s.levels.toNat ≤ 16 ∧ 1 ≤ s.subblocks.toNat ∧
        2 ^ s.levels.toNat * s.subblocks.toNat ≤ 983040) →
      exec .dinit s = .next { s with status := { s.status with dok := false, err := .ok }, result := 0 })

/-- R135, R140: DECODE's closed form: every output slot is the wrapped linear interpolation of the neighbouring
coefficients, the scratch entries are the last coefficient doubled level by level, and nothing else changes. -/
def Obligations.DecodeInterpolates : Prop :=
  encode .decode = .command 0x00000006 ∧
  ∀ s : State, s.status.fault = false → s.status.dok = true → s.dGeomOK = true → 1 ≤ s.arg0.toNat →
    s.arg0.toNat * 2 ^ s.levels.toNat ≤ 983040 →
    let L := s.levels.toNat
    let S := s.arg0.toNat
    let c := fun q => (s.readSlot q).toInt
    ∃ t, exec .decode s = .next t ∧
      (∀ p, p < S * 2 ^ L → t.readSlot p = BitVec.ofInt 32 (interpolated L S c p)) ∧
      (∀ p, S * 2 ^ L ≤ p → t.readSlot p = s.readSlot p) ∧
      (∀ l : Fin 16, t.scr[l] = if l.val < L then BitVec.ofInt 32 (c (S - 1) * 2 ^ l.val) else s.scr[l]) ∧
      t = { s with buf := t.buf, scr := t.scr, result := 1, status := { s.status with err := .ok } }

/-- R139: for coefficients within 16 bits no sum wraps, and the rescaled sample is the exact interpolation rounded toward
minus infinity. -/
def Obligations.NoOverflowOnUnpackedData : Prop :=
  ∀ (s : State) (S p : Nat), 1 ≤ S → s.levels.toNat ≤ 16 →
    (∀ q, q < S → (s.readSlot q).toInt.natAbs ≤ 32767) → p < S * 2 ^ s.levels.toNat →
    let L := s.levels.toNat
    let c := fun q => (s.readSlot q).toInt
    let q := p / 2 ^ L
    let r : Int := ((p % 2 ^ L : Nat) : Int)
    ((decodeData S s).readSlot p).toInt = interpolated L S c p ∧
    (interpolated L S c p).natAbs ≤ 32767 * 2 ^ L ∧
    (emit L ((decodeData S s).readSlot p)).toInt = c q + r * (c (min (q + 1) (S - 1)) - c q) / 2 ^ L

/-! ## SEQ -/

/-- R151, R152: REFILL is a GETBLK and, if that succeeds, a DECODE of SUBBLOCKS coefficients, with the counters moved. The
second clause is the MODEL's choice (notes/assumptions/10.md): REFILL checks neither UOK nor DOK, so without them it does
the same and leaves them as they are. -/
def Obligations.RefillIsGetblkThenDecode : Prop :=
  encode .refill = .command 0x00000007 ∧
  ∀ s : State, Readable s → s.samplesReady = 0 → s.samplesLeft ≠ 0 →
    (s.status.uok = true → s.status.dok = true → ∃ b t, exec .getblk s = .next b ∧ exec .refill s = .next t ∧
      (b.result = 0 → t = b) ∧
      (b.result ≠ 0 → ∃ d, exec .decode { b with arg0 := s.subblocks.setWidth 32 } = .next d ∧
        t = { d with
          arg0 := s.arg0
          samplesReady := BitVec.ofNat 32 (min (2 ^ s.levels.toNat * s.subblocks.toNat) s.samplesLeft.toNat)
          samplesLeft :=
            s.samplesLeft - BitVec.ofNat 32 (min (2 ^ s.levels.toNat * s.subblocks.toNat) s.samplesLeft.toNat)
          rdptr := 0 })) ∧
    (∃ t v, exec .refill s = .next t ∧
      exec .refill { s with status := { s.status with uok := true, dok := true } } = .next v ∧
      t = { v with status := { v.status with uok := s.status.uok, dok := s.status.dok } })

/-- R152, R153: a READ that finds no sample ready and some left is a REFILL and then the READ; where the REFILL fails, the
READ leaves what the REFILL leaves. What it delivers is so REFILL's block (`RefillIsGetblkThenDecode`), read as
`ReadDeliversReadySamples` says. Without UOK this is the MODEL's choice (notes/assumptions/10.md). -/
def Obligations.ReadIsRefillThenRead : Prop :=
  ∀ s : State, Readable s → s.samplesReady = 0 → s.samplesLeft ≠ 0 → s.arg0 ≠ 0 →
    ∃ b t, exec .refill s = .next b ∧ exec .read b = .next t ∧ exec .read s = .next t ∧ (b.result = 0 → t = b)

/-- R153, R161, R162: a READ that asks for nothing, or finds the stream delivered, or finds BU failed, returns 0 and changes
nothing else; no refill is attempted, or the refill returns at once. -/
def Obligations.ReadOfNothingChangesNothing : Prop :=
  ∀ s : State, s.status.fault = false → s.status.opened = true →
    (s.arg0 = 0 ∨ (s.samplesReady = 0 ∧ (s.samplesLeft = 0 ∨ s.status.ufail = true))) →
    exec .read s = .next { s with result := 0, status := { s.status with err := .ok } }

/-- R153, R155, R59: a READ of no more samples than are ready delivers the next slots, shifted and narrowed, to elements
ARG1 up (modulo 2^32), and no other element; no code is read. -/
def Obligations.ReadDeliversReadySamples : Prop :=
  ∀ s : State, s.status.fault = false → s.status.opened = true → s.arg0.toNat ≤ s.samplesReady.toNat →
    ∃ t, exec .read s = .next t ∧
      (∀ k, k < s.arg0.toNat → t.out.read? (s.arg1 + BitVec.ofNat 32 k).toNat =
        some (emit s.levels.toNat (s.readSlot (s.rdptr + BitVec.ofNat 20 k).toNat))) ∧
      (∀ idx, (∀ k, k < s.arg0.toNat → idx ≠ (s.arg1 + BitVec.ofNat 32 k).toNat) →
        t.out.read? idx = s.out.read? idx) ∧
      t = { s with
        out := t.out, rdptr := s.rdptr + BitVec.ofNat 20 s.arg0.toNat, samplesReady := s.samplesReady - s.arg0
        result := s.arg0, status := { s.status with err := .ok } }

/-- R153, R154, R158: READ completes; it moves samples from the counters to the host and loses none; it is short only at
the stream's end or after a BU failure; it writes no other element of OUT, no slot past the block and no other register.
Without UOK this is the MODEL's choice (notes/assumptions/10.md). -/
def Obligations.ReadConservesSamples : Prop :=
  encode .read = .command 0x00000008 ∧
  ∀ s : State, Readable s →
    ∃ t, exec .read s = .next t ∧ t.result.toNat ≤ s.arg0.toNat ∧
      t.result.toNat + t.samplesReady.toNat + t.samplesLeft.toNat = s.samplesReady.toNat + s.samplesLeft.toNat ∧
      (t.result.toNat < s.arg0.toNat → t.samplesReady = 0 ∧ (t.samplesLeft = 0 ∨ t.status.ufail = true)) ∧
      (∀ idx, (∀ k, k < t.result.toNat → idx ≠ (s.arg1 + BitVec.ofNat 32 k).toNat) →
        t.out.read? idx = s.out.read? idx) ∧
      (∀ i, 2 ^ s.levels.toNat * s.subblocks.toNat ≤ i → t.readSlot i = s.readSlot i) ∧
      t.status = { s.status with ufail := t.status.ufail, cause := t.status.cause, err := .ok } ∧
      t = { s with
        status := t.status, result := t.result, samplesReady := t.samplesReady, samplesLeft := t.samplesLeft
        rdptr := t.rdptr, pos := t.pos, bitbuf := t.bitbuf, bitcnt := t.bitcnt, lvlptr := t.lvlptr, ctx := t.ctx
        scr := t.scr, buf := t.buf, out := t.out }

/-- R159: two READs of `n1` and `n2` samples, the second where the first stopped, are one READ of `n1 + n2`. -/
def Obligations.PartialReadsConcatenate : Prop :=
  ∀ (s : State) (n1 n2 base : Word), Readable s → n1.toNat + n2.toNat < 2 ^ 32 →
    ∃ t1 t2 t, exec .read (withArgs s n1 base) = .next t1 ∧
      exec .read (withArgs t1 n2 (base + t1.result)) = .next t2 ∧
      exec .read (withArgs s (n1 + n2) base) = .next t ∧
      t.result = t1.result + t2.result ∧
      t = { t2 with arg0 := n1 + n2, arg1 := base, result := t.result }

/-- R137, R160: with no samples pending, what a READ delivers and leaves depends on nothing the buffer or the scratch file
held before. -/
def Obligations.ReadIgnoresOldBuffer : Prop :=
  ∀ (s : State) (buf : Memory Slot) (scr : Vector Slot 16) (epoch : Nat), Readable s → s.samplesReady = 0 →
    ∃ t t', exec .read s = .next t ∧ exec .read { s with buf := buf, scr := scr, bufEpoch := epoch } = .next t' ∧
      t' = { t with buf := t'.buf, scr := t'.scr, bufEpoch := epoch }

/-- R156: REWIND, its two refusals and its effect, in the middle of a block and after a failure alike. -/
def Obligations.RewindRestoresTheStart : Prop :=
  encode .rewind = .command 0x00000009 ∧
  ∀ s : State,
    (s.status.fault = true → exec .rewind s = .next (refused s .faulted)) ∧
    (s.status.fault = false → s.status.opened = false → exec .rewind s = .next (refused s .badState)) ∧
    (s.status.fault = false → s.status.opened = true →
      exec .rewind s = .next { s with
        status := { s.status with ufail := false, cause := .none, err := .ok }
        result := 1, pos := 14, samplesReady := 0, samplesLeft := s.samples, rdptr := 0
        ctx := freshContext s.levels.toNat, lvlptr := 0, bitbuf := 0, bitcnt := 0 })

/-- R160: after REWIND a READ delivers exactly what it delivers right after OPEN of the same stream, whatever was read
before. -/
def Obligations.RewindEqualsFreshOpen : Prop :=
  ∀ (s u : State) (n c r g : Nat) (count base : Word) (out : Memory Sample),
    s.status.fault = false → s.status.opened = false → s.size < 2 ^ 32 → Header s Config.MAGIC n c r g →
    GoodGeometry s g →
    u.status.fault = false → u.status.opened = true → u.stream = s.stream → u.samples = BitVec.ofNat 32 n →
    u.levels = BitVec.ofNat 12 (g / 16) → u.subblocks = BitVec.ofNat 4 (g % 16) →
    ∃ t v t' v', exec .openStream s = .next t ∧ exec .rewind u = .next v ∧
      exec .read { withArgs t count base with out := out } = .next t' ∧
      exec .read { withArgs v count base with out := out } = .next v' ∧
      t'.result = v'.result ∧ t'.out = v'.out ∧ t'.samplesLeft = v'.samplesLeft ∧
      t'.samplesReady = v'.samplesReady ∧ t'.status.ufail = v'.status.ufail

/-- R155: Emit is the floor of `x / 2^LEVELS`, narrowed by keeping 16 bits. -/
def Obligations.EmitIsFloorThenTruncate : Prop :=
  ∀ (L : Nat) (x : Slot), emit L x = BitVec.ofInt 16 (x.toInt / 2 ^ L)

/-! ## Code classes -/

/-- R117, for every width: the value is yielded, the level's next code is one bit wider, 16 at most, and the level pointer
advances; nothing else changes. That ReadCode's answer stands on `port` is the MODEL's choice (notes/assumptions/6.md). -/
def Obligations.GrowCodesWiden : Prop :=
  GrowEffect 2 .codeGrowW2 ∧
  GrowEffect 3 .codeGrowW3 ∧
  GrowEffect 4 .codeGrowW4 ∧
  GrowEffect 5 .codeGrowW5 ∧
  GrowEffect 6 .codeGrowW6 ∧
  GrowEffect 7 .codeGrowW7 ∧
  GrowEffect 8 .codeGrowW8 ∧
  GrowEffect 9 .codeGrowW9 ∧
  GrowEffect 10 .codeGrowW10 ∧
  GrowEffect 11 .codeGrowW11 ∧
  GrowEffect 12 .codeGrowW12 ∧
  GrowEffect 13 .codeGrowW13 ∧
  GrowEffect 14 .codeGrowW14 ∧
  GrowEffect 15 .codeGrowW15 ∧
  GrowEffect 16 .codeGrowW16

/-- R118, for every width: the value is yielded, the width stays, the level pointer advances; nothing else changes. That
ReadCode's answer stands on `port` is the MODEL's choice (notes/assumptions/6.md). -/
def Obligations.HoldCodesKeepTheWidth : Prop :=
  HoldEffect 2 .codeHoldW2 ∧
  HoldEffect 3 .codeHoldW3 ∧
  HoldEffect 4 .codeHoldW4 ∧
  HoldEffect 5 .codeHoldW5 ∧
  HoldEffect 6 .codeHoldW6 ∧
  HoldEffect 7 .codeHoldW7 ∧
  HoldEffect 8 .codeHoldW8 ∧
  HoldEffect 9 .codeHoldW9 ∧
  HoldEffect 10 .codeHoldW10 ∧
  HoldEffect 11 .codeHoldW11 ∧
  HoldEffect 12 .codeHoldW12 ∧
  HoldEffect 13 .codeHoldW13 ∧
  HoldEffect 14 .codeHoldW14 ∧
  HoldEffect 15 .codeHoldW15 ∧
  HoldEffect 16 .codeHoldW16

/-- R119, for every width: the value is yielded, the level's next code is one bit narrower, and the level pointer advances;
nothing else changes. That ReadCode's answer stands on `port` is the MODEL's choice (notes/assumptions/6.md). -/
def Obligations.ShrinkCodesNarrow : Prop :=
  ShrinkEffect 3 .codeShrinkW3 ∧
  ShrinkEffect 4 .codeShrinkW4 ∧
  ShrinkEffect 5 .codeShrinkW5 ∧
  ShrinkEffect 6 .codeShrinkW6 ∧
  ShrinkEffect 7 .codeShrinkW7 ∧
  ShrinkEffect 8 .codeShrinkW8 ∧
  ShrinkEffect 9 .codeShrinkW9 ∧
  ShrinkEffect 10 .codeShrinkW10 ∧
  ShrinkEffect 11 .codeShrinkW11 ∧
  ShrinkEffect 12 .codeShrinkW12 ∧
  ShrinkEffect 13 .codeShrinkW13 ∧
  ShrinkEffect 14 .codeShrinkW14 ∧
  ShrinkEffect 15 .codeShrinkW15 ∧
  ShrinkEffect 16 .codeShrinkW16

/-- R120, for every width: ReadCode answers `rsv`; context, level pointer and buffer stay. That the answer stands on `port`
is the MODEL's choice (notes/assumptions/6.md). -/
def Obligations.ReservedCodesFail : Prop :=
  RsvEffect .codeRsvW2 ∧
  RsvEffect .codeRsvW3 ∧
  RsvEffect .codeRsvW4 ∧
  RsvEffect .codeRsvW5 ∧
  RsvEffect .codeRsvW6 ∧
  RsvEffect .codeRsvW7 ∧
  RsvEffect .codeRsvW8 ∧
  RsvEffect .codeRsvW9 ∧
  RsvEffect .codeRsvW10 ∧
  RsvEffect .codeRsvW11 ∧
  RsvEffect .codeRsvW12 ∧
  RsvEffect .codeRsvW13 ∧
  RsvEffect .codeRsvW14 ∧
  RsvEffect .codeRsvW15 ∧
  RsvEffect .codeRsvW16

/-- R121: where a bit is missing ReadCode answers `eos`; context, level pointer and buffer stay. That the answer stands on
`port` is the MODEL's choice (notes/assumptions/6.md). -/
def Obligations.EndOfStreamCodeFails : Prop :=
  ∀ s : State, exec .codeEos s = .next { s with port := .returned .eos }
end

