-- ==== Sys2Proof/Laws/Memory.lean ====
section
/-! SUPPORT. The laws of the sparse spaces BUF and OUT: a read after a write, and the canonical form and the bounds that
every write keeps. -/

namespace Sys2Proof.Machine

variable {α : Type}

theorem Memory.read?_write_same (m : Memory α) (i : Nat) (x : α) : (m.write i x).read? i = some x := by
  induction m with
  | nil => simp [Memory.write, Memory.read?]
  | cons c m ih =>
    obtain ⟨k, v⟩ := c
    by_cases h : i < k
    · simp [Memory.write, Memory.read?, h]
    · by_cases h' : i = k
      · simp [Memory.write, Memory.read?, h']
      · simp [Memory.write, Memory.read?, h, h', ih]

theorem Memory.read?_write_other (m : Memory α) {i j : Nat} (x : α) (h : j ≠ i) :
    (m.write i x).read? j = m.read? j := by
  induction m with
  | nil => simp [Memory.write, Memory.read?, h]
  | cons c m ih =>
    obtain ⟨k, v⟩ := c
    by_cases h1 : i < k
    · simp [Memory.write, Memory.read?, h1, h]
    · by_cases h2 : i = k
      · subst h2; simp [Memory.write, Memory.read?, h]
      · simp [Memory.write, Memory.read?, h1, h2, ih]

theorem Memory.read?_write (m : Memory α) (i j : Nat) (x : α) :
    (m.write i x).read? j = if j = i then some x else m.read? j := by
  by_cases h : j = i
  · subst h; simp [Memory.read?_write_same]
  · simp [Memory.read?_write_other _ _ h, h]

theorem Memory.wf_cons (a : Nat × α) (m : Memory α) :
    Memory.wf (a :: m) = true ↔ (∀ c ∈ m.head?, a.1 < c.1) ∧ m.wf = true := by
  cases m <;> simp [Memory.wf]

theorem Memory.head?_write (m : Memory α) (i : Nat) (x : α) :
    ∀ c ∈ (m.write i x).head?, c.1 = i ∨ c ∈ m.head? := by
  cases m with
  | nil => simp [Memory.write]
  | cons c m =>
    obtain ⟨k, v⟩ := c
    by_cases h1 : i < k
    · simp [Memory.write, h1]
    · by_cases h2 : i = k <;> simp [Memory.write, h1, h2]

/-- A write keeps the canonical form. -/
theorem Memory.wf_write (m : Memory α) (i : Nat) (x : α) (h : m.wf = true) : (m.write i x).wf = true := by
  induction m with
  | nil => rfl
  | cons c m ih =>
    obtain ⟨k, v⟩ := c
    obtain ⟨hh, hm⟩ := (Memory.wf_cons _ _).1 h
    by_cases h1 : i < k
    · simpa [Memory.write, h1] using (Memory.wf_cons (i, x) _).2 ⟨by simp [h1], h⟩
    · by_cases h2 : i = k
      · subst h2
        simpa [Memory.write] using (Memory.wf_cons (i, x) m).2 ⟨hh, hm⟩
      · have : k < i := by omega
        simp only [Memory.write, h1, h2, if_false]
        refine (Memory.wf_cons _ _).2 ⟨fun c hc => ?_, ih hm⟩
        rcases Memory.head?_write m i x c hc with e | e
        · simpa [e] using this
        · exact hh c e

/-- A write inside the space keeps every index inside it. -/
theorem Memory.below_write (m : Memory α) (i bound : Nat) (x : α) (h : m.below bound = true) (hi : i < bound) :
    (m.write i x).below bound = true := by
  induction m with
  | nil => simp [Memory.write, Memory.below, hi]
  | cons c m ih =>
    obtain ⟨k, v⟩ := c
    simp only [Memory.below, List.all_cons, Bool.and_eq_true, decide_eq_true_eq] at h ih ⊢
    by_cases h1 : i < k
    · simp only [Memory.write, h1, if_true, List.all_cons, Bool.and_eq_true, decide_eq_true_eq]
      exact ⟨hi, h⟩
    · by_cases h2 : i = k
      · simp only [Memory.write, h2, lt_irrefl, if_true, if_false, List.all_cons, Bool.and_eq_true, decide_eq_true_eq]
        exact h
      · simp only [Memory.write, h1, h2, if_false, List.all_cons, Bool.and_eq_true, decide_eq_true_eq]
        exact ⟨h.1, ih h.2⟩

/-- The state after reset has the canonical form in both spaces. -/
theorem reset_memory_wf : State.reset.buf.wf = true ∧ State.reset.out.wf = true := ⟨rfl, rfl⟩

@[simp] theorem State.readSlot_writeSlot_same (s : State) (i : Nat) (v : Slot) : (s.writeSlot i v).readSlot i = v := by
  simp [State.readSlot, State.writeSlot, Memory.read?_write_same]

theorem State.readSlot_writeSlot_other (s : State) {i j : Nat} (v : Slot) (h : j ≠ i) :
    (s.writeSlot i v).readSlot j = s.readSlot j := by
  simp [State.readSlot, State.writeSlot, Memory.read?_write_other _ _ h]

theorem State.readSlot_writeSlot (s : State) (i j : Nat) (v : Slot) :
    (s.writeSlot i v).readSlot j = if j = i then v else s.readSlot j := by
  by_cases h : j = i
  · subst h; simp
  · simp [State.readSlot_writeSlot_other s v h, h]

theorem State.readSlot_congr {s t : State} (i : Nat) (hb : s.buf = t.buf) (he : s.bufEpoch = t.bufEpoch) :
    s.readSlot i = t.readSlot i := by simp [State.readSlot, hb, he]

end Sys2Proof.Machine
end

