-- ==== Sys2Proof/Laws/State.lean ====
section
/-! SUPPORT. One lemma per field per named update of State, true by definition, so that no proof unfolds a record
update. -/

namespace Sys2Proof.Machine

section
variable (s : State) (b : Bool)
@[simp] theorem State.setUok_status : (s.setUok b).status = { s.status with uok := b } := rfl
@[simp] theorem State.setUok_arg0 : (s.setUok b).arg0 = s.arg0 := rfl
@[simp] theorem State.setUok_arg1 : (s.setUok b).arg1 = s.arg1 := rfl
@[simp] theorem State.setUok_result : (s.setUok b).result = s.result := rfl
@[simp] theorem State.setUok_samples : (s.setUok b).samples = s.samples := rfl
@[simp] theorem State.setUok_channels : (s.setUok b).channels = s.channels := rfl
@[simp] theorem State.setUok_rate : (s.setUok b).rate = s.rate := rfl
@[simp] theorem State.setUok_levels : (s.setUok b).levels = s.levels := rfl
@[simp] theorem State.setUok_subblocks : (s.setUok b).subblocks = s.subblocks := rfl
@[simp] theorem State.setUok_samplesLeft : (s.setUok b).samplesLeft = s.samplesLeft := rfl
@[simp] theorem State.setUok_samplesReady : (s.setUok b).samplesReady = s.samplesReady := rfl
@[simp] theorem State.setUok_rdptr : (s.setUok b).rdptr = s.rdptr := rfl
@[simp] theorem State.setUok_pos : (s.setUok b).pos = s.pos := rfl
@[simp] theorem State.setUok_bitbuf : (s.setUok b).bitbuf = s.bitbuf := rfl
@[simp] theorem State.setUok_bitcnt : (s.setUok b).bitcnt = s.bitcnt := rfl
@[simp] theorem State.setUok_lvlptr : (s.setUok b).lvlptr = s.lvlptr := rfl
@[simp] theorem State.setUok_ctx : (s.setUok b).ctx = s.ctx := rfl
@[simp] theorem State.setUok_scr : (s.setUok b).scr = s.scr := rfl
@[simp] theorem State.setUok_bufidx : (s.setUok b).bufidx = s.bufidx := rfl
@[simp] theorem State.setUok_buf : (s.setUok b).buf = s.buf := rfl
@[simp] theorem State.setUok_stream : (s.setUok b).stream = s.stream := rfl
@[simp] theorem State.setUok_out : (s.setUok b).out = s.out := rfl
@[simp] theorem State.setUok_bufEpoch : (s.setUok b).bufEpoch = s.bufEpoch := rfl
@[simp] theorem State.setUok_session : (s.setUok b).session = s.session := rfl
@[simp] theorem State.setUok_port : (s.setUok b).port = s.port := rfl
@[simp] theorem State.setUok_actions : (s.setUok b).actions = s.actions := rfl
@[simp] theorem State.setUok_readLog : (s.setUok b).readLog = s.readLog := rfl
end

section
variable (s : State) (b : Bool)
@[simp] theorem State.setDok_status : (s.setDok b).status = { s.status with dok := b } := rfl
@[simp] theorem State.setDok_arg0 : (s.setDok b).arg0 = s.arg0 := rfl
@[simp] theorem State.setDok_arg1 : (s.setDok b).arg1 = s.arg1 := rfl
@[simp] theorem State.setDok_result : (s.setDok b).result = s.result := rfl
@[simp] theorem State.setDok_samples : (s.setDok b).samples = s.samples := rfl
@[simp] theorem State.setDok_channels : (s.setDok b).channels = s.channels := rfl
@[simp] theorem State.setDok_rate : (s.setDok b).rate = s.rate := rfl
@[simp] theorem State.setDok_levels : (s.setDok b).levels = s.levels := rfl
@[simp] theorem State.setDok_subblocks : (s.setDok b).subblocks = s.subblocks := rfl
@[simp] theorem State.setDok_samplesLeft : (s.setDok b).samplesLeft = s.samplesLeft := rfl
@[simp] theorem State.setDok_samplesReady : (s.setDok b).samplesReady = s.samplesReady := rfl
@[simp] theorem State.setDok_rdptr : (s.setDok b).rdptr = s.rdptr := rfl
@[simp] theorem State.setDok_pos : (s.setDok b).pos = s.pos := rfl
@[simp] theorem State.setDok_bitbuf : (s.setDok b).bitbuf = s.bitbuf := rfl
@[simp] theorem State.setDok_bitcnt : (s.setDok b).bitcnt = s.bitcnt := rfl
@[simp] theorem State.setDok_lvlptr : (s.setDok b).lvlptr = s.lvlptr := rfl
@[simp] theorem State.setDok_ctx : (s.setDok b).ctx = s.ctx := rfl
@[simp] theorem State.setDok_scr : (s.setDok b).scr = s.scr := rfl
@[simp] theorem State.setDok_bufidx : (s.setDok b).bufidx = s.bufidx := rfl
@[simp] theorem State.setDok_buf : (s.setDok b).buf = s.buf := rfl
@[simp] theorem State.setDok_stream : (s.setDok b).stream = s.stream := rfl
@[simp] theorem State.setDok_out : (s.setDok b).out = s.out := rfl
@[simp] theorem State.setDok_bufEpoch : (s.setDok b).bufEpoch = s.bufEpoch := rfl
@[simp] theorem State.setDok_session : (s.setDok b).session = s.session := rfl
@[simp] theorem State.setDok_port : (s.setDok b).port = s.port := rfl
@[simp] theorem State.setDok_actions : (s.setDok b).actions = s.actions := rfl
@[simp] theorem State.setDok_readLog : (s.setDok b).readLog = s.readLog := rfl
end

section
variable (s : State)
@[simp] theorem State.setOpened_status : s.setOpened.status = { s.status with opened := true } := rfl
@[simp] theorem State.setOpened_arg0 : s.setOpened.arg0 = s.arg0 := rfl
@[simp] theorem State.setOpened_arg1 : s.setOpened.arg1 = s.arg1 := rfl
@[simp] theorem State.setOpened_result : s.setOpened.result = s.result := rfl
@[simp] theorem State.setOpened_samples : s.setOpened.samples = s.samples := rfl
@[simp] theorem State.setOpened_channels : s.setOpened.channels = s.channels := rfl
@[simp] theorem State.setOpened_rate : s.setOpened.rate = s.rate := rfl
@[simp] theorem State.setOpened_levels : s.setOpened.levels = s.levels := rfl
@[simp] theorem State.setOpened_subblocks : s.setOpened.subblocks = s.subblocks := rfl
@[simp] theorem State.setOpened_samplesLeft : s.setOpened.samplesLeft = s.samplesLeft := rfl
@[simp] theorem State.setOpened_samplesReady : s.setOpened.samplesReady = s.samplesReady := rfl
@[simp] theorem State.setOpened_rdptr : s.setOpened.rdptr = s.rdptr := rfl
@[simp] theorem State.setOpened_pos : s.setOpened.pos = s.pos := rfl
@[simp] theorem State.setOpened_bitbuf : s.setOpened.bitbuf = s.bitbuf := rfl
@[simp] theorem State.setOpened_bitcnt : s.setOpened.bitcnt = s.bitcnt := rfl
@[simp] theorem State.setOpened_lvlptr : s.setOpened.lvlptr = s.lvlptr := rfl
@[simp] theorem State.setOpened_ctx : s.setOpened.ctx = s.ctx := rfl
@[simp] theorem State.setOpened_scr : s.setOpened.scr = s.scr := rfl
@[simp] theorem State.setOpened_bufidx : s.setOpened.bufidx = s.bufidx := rfl
@[simp] theorem State.setOpened_buf : s.setOpened.buf = s.buf := rfl
@[simp] theorem State.setOpened_stream : s.setOpened.stream = s.stream := rfl
@[simp] theorem State.setOpened_out : s.setOpened.out = s.out := rfl
@[simp] theorem State.setOpened_bufEpoch : s.setOpened.bufEpoch = s.bufEpoch := rfl
@[simp] theorem State.setOpened_session : s.setOpened.session = s.session := rfl
@[simp] theorem State.setOpened_port : s.setOpened.port = s.port := rfl
@[simp] theorem State.setOpened_actions : s.setOpened.actions = s.actions := rfl
@[simp] theorem State.setOpened_readLog : s.setOpened.readLog = s.readLog := rfl
end

section
variable (s : State) (c : Cause)
@[simp] theorem State.failUnpacker_status : (s.failUnpacker c).status = { s.status with ufail := true, cause := c } := rfl
@[simp] theorem State.failUnpacker_arg0 : (s.failUnpacker c).arg0 = s.arg0 := rfl
@[simp] theorem State.failUnpacker_arg1 : (s.failUnpacker c).arg1 = s.arg1 := rfl
@[simp] theorem State.failUnpacker_result : (s.failUnpacker c).result = s.result := rfl
@[simp] theorem State.failUnpacker_samples : (s.failUnpacker c).samples = s.samples := rfl
@[simp] theorem State.failUnpacker_channels : (s.failUnpacker c).channels = s.channels := rfl
@[simp] theorem State.failUnpacker_rate : (s.failUnpacker c).rate = s.rate := rfl
@[simp] theorem State.failUnpacker_levels : (s.failUnpacker c).levels = s.levels := rfl
@[simp] theorem State.failUnpacker_subblocks : (s.failUnpacker c).subblocks = s.subblocks := rfl
@[simp] theorem State.failUnpacker_samplesLeft : (s.failUnpacker c).samplesLeft = s.samplesLeft := rfl
@[simp] theorem State.failUnpacker_samplesReady : (s.failUnpacker c).samplesReady = s.samplesReady := rfl
@[simp] theorem State.failUnpacker_rdptr : (s.failUnpacker c).rdptr = s.rdptr := rfl
@[simp] theorem State.failUnpacker_pos : (s.failUnpacker c).pos = s.pos := rfl
@[simp] theorem State.failUnpacker_bitbuf : (s.failUnpacker c).bitbuf = s.bitbuf := rfl
@[simp] theorem State.failUnpacker_bitcnt : (s.failUnpacker c).bitcnt = s.bitcnt := rfl
@[simp] theorem State.failUnpacker_lvlptr : (s.failUnpacker c).lvlptr = s.lvlptr := rfl
@[simp] theorem State.failUnpacker_ctx : (s.failUnpacker c).ctx = s.ctx := rfl
@[simp] theorem State.failUnpacker_scr : (s.failUnpacker c).scr = s.scr := rfl
@[simp] theorem State.failUnpacker_bufidx : (s.failUnpacker c).bufidx = s.bufidx := rfl
@[simp] theorem State.failUnpacker_buf : (s.failUnpacker c).buf = s.buf := rfl
@[simp] theorem State.failUnpacker_stream : (s.failUnpacker c).stream = s.stream := rfl
@[simp] theorem State.failUnpacker_out : (s.failUnpacker c).out = s.out := rfl
@[simp] theorem State.failUnpacker_bufEpoch : (s.failUnpacker c).bufEpoch = s.bufEpoch := rfl
@[simp] theorem State.failUnpacker_session : (s.failUnpacker c).session = s.session := rfl
@[simp] theorem State.failUnpacker_port : (s.failUnpacker c).port = s.port := rfl
@[simp] theorem State.failUnpacker_actions : (s.failUnpacker c).actions = s.actions := rfl
@[simp] theorem State.failUnpacker_readLog : (s.failUnpacker c).readLog = s.readLog := rfl
end

section
variable (s : State)
@[simp] theorem State.clearUfail_status : s.clearUfail.status = { s.status with ufail := false, cause := .none } := rfl
@[simp] theorem State.clearUfail_arg0 : s.clearUfail.arg0 = s.arg0 := rfl
@[simp] theorem State.clearUfail_arg1 : s.clearUfail.arg1 = s.arg1 := rfl
@[simp] theorem State.clearUfail_result : s.clearUfail.result = s.result := rfl
@[simp] theorem State.clearUfail_samples : s.clearUfail.samples = s.samples := rfl
@[simp] theorem State.clearUfail_channels : s.clearUfail.channels = s.channels := rfl
@[simp] theorem State.clearUfail_rate : s.clearUfail.rate = s.rate := rfl
@[simp] theorem State.clearUfail_levels : s.clearUfail.levels = s.levels := rfl
@[simp] theorem State.clearUfail_subblocks : s.clearUfail.subblocks = s.subblocks := rfl
@[simp] theorem State.clearUfail_samplesLeft : s.clearUfail.samplesLeft = s.samplesLeft := rfl
@[simp] theorem State.clearUfail_samplesReady : s.clearUfail.samplesReady = s.samplesReady := rfl
@[simp] theorem State.clearUfail_rdptr : s.clearUfail.rdptr = s.rdptr := rfl
@[simp] theorem State.clearUfail_pos : s.clearUfail.pos = s.pos := rfl
@[simp] theorem State.clearUfail_bitbuf : s.clearUfail.bitbuf = s.bitbuf := rfl
@[simp] theorem State.clearUfail_bitcnt : s.clearUfail.bitcnt = s.bitcnt := rfl
@[simp] theorem State.clearUfail_lvlptr : s.clearUfail.lvlptr = s.lvlptr := rfl
@[simp] theorem State.clearUfail_ctx : s.clearUfail.ctx = s.ctx := rfl
@[simp] theorem State.clearUfail_scr : s.clearUfail.scr = s.scr := rfl
@[simp] theorem State.clearUfail_bufidx : s.clearUfail.bufidx = s.bufidx := rfl
@[simp] theorem State.clearUfail_buf : s.clearUfail.buf = s.buf := rfl
@[simp] theorem State.clearUfail_stream : s.clearUfail.stream = s.stream := rfl
@[simp] theorem State.clearUfail_out : s.clearUfail.out = s.out := rfl
@[simp] theorem State.clearUfail_bufEpoch : s.clearUfail.bufEpoch = s.bufEpoch := rfl
@[simp] theorem State.clearUfail_session : s.clearUfail.session = s.session := rfl
@[simp] theorem State.clearUfail_port : s.clearUfail.port = s.port := rfl
@[simp] theorem State.clearUfail_actions : s.clearUfail.actions = s.actions := rfl
@[simp] theorem State.clearUfail_readLog : s.clearUfail.readLog = s.readLog := rfl
end

section
variable (s : State)
@[simp] theorem State.clearInits_status : s.clearInits.status = { s.status with uok := false, dok := false } := rfl
@[simp] theorem State.clearInits_arg0 : s.clearInits.arg0 = s.arg0 := rfl
@[simp] theorem State.clearInits_arg1 : s.clearInits.arg1 = s.arg1 := rfl
@[simp] theorem State.clearInits_result : s.clearInits.result = s.result := rfl
@[simp] theorem State.clearInits_samples : s.clearInits.samples = s.samples := rfl
@[simp] theorem State.clearInits_channels : s.clearInits.channels = s.channels := rfl
@[simp] theorem State.clearInits_rate : s.clearInits.rate = s.rate := rfl
@[simp] theorem State.clearInits_levels : s.clearInits.levels = s.levels := rfl
@[simp] theorem State.clearInits_subblocks : s.clearInits.subblocks = s.subblocks := rfl
@[simp] theorem State.clearInits_samplesLeft : s.clearInits.samplesLeft = s.samplesLeft := rfl
@[simp] theorem State.clearInits_samplesReady : s.clearInits.samplesReady = s.samplesReady := rfl
@[simp] theorem State.clearInits_rdptr : s.clearInits.rdptr = s.rdptr := rfl
@[simp] theorem State.clearInits_pos : s.clearInits.pos = s.pos := rfl
@[simp] theorem State.clearInits_bitbuf : s.clearInits.bitbuf = s.bitbuf := rfl
@[simp] theorem State.clearInits_bitcnt : s.clearInits.bitcnt = s.bitcnt := rfl
@[simp] theorem State.clearInits_lvlptr : s.clearInits.lvlptr = s.lvlptr := rfl
@[simp] theorem State.clearInits_ctx : s.clearInits.ctx = s.ctx := rfl
@[simp] theorem State.clearInits_scr : s.clearInits.scr = s.scr := rfl
@[simp] theorem State.clearInits_bufidx : s.clearInits.bufidx = s.bufidx := rfl
@[simp] theorem State.clearInits_buf : s.clearInits.buf = s.buf := rfl
@[simp] theorem State.clearInits_stream : s.clearInits.stream = s.stream := rfl
@[simp] theorem State.clearInits_out : s.clearInits.out = s.out := rfl
@[simp] theorem State.clearInits_bufEpoch : s.clearInits.bufEpoch = s.bufEpoch := rfl
@[simp] theorem State.clearInits_session : s.clearInits.session = s.session := rfl
@[simp] theorem State.clearInits_port : s.clearInits.port = s.port := rfl
@[simp] theorem State.clearInits_actions : s.clearInits.actions = s.actions := rfl
@[simp] theorem State.clearInits_readLog : s.clearInits.readLog = s.readLog := rfl
end

section
variable (s : State) (v : Word)
@[simp] theorem State.complete_status : (s.complete v).status = { s.status with err := .ok } := rfl
@[simp] theorem State.complete_arg0 : (s.complete v).arg0 = s.arg0 := rfl
@[simp] theorem State.complete_arg1 : (s.complete v).arg1 = s.arg1 := rfl
@[simp] theorem State.complete_result : (s.complete v).result = v := rfl
@[simp] theorem State.complete_samples : (s.complete v).samples = s.samples := rfl
@[simp] theorem State.complete_channels : (s.complete v).channels = s.channels := rfl
@[simp] theorem State.complete_rate : (s.complete v).rate = s.rate := rfl
@[simp] theorem State.complete_levels : (s.complete v).levels = s.levels := rfl
@[simp] theorem State.complete_subblocks : (s.complete v).subblocks = s.subblocks := rfl
@[simp] theorem State.complete_samplesLeft : (s.complete v).samplesLeft = s.samplesLeft := rfl
@[simp] theorem State.complete_samplesReady : (s.complete v).samplesReady = s.samplesReady := rfl
@[simp] theorem State.complete_rdptr : (s.complete v).rdptr = s.rdptr := rfl
@[simp] theorem State.complete_pos : (s.complete v).pos = s.pos := rfl
@[simp] theorem State.complete_bitbuf : (s.complete v).bitbuf = s.bitbuf := rfl
@[simp] theorem State.complete_bitcnt : (s.complete v).bitcnt = s.bitcnt := rfl
@[simp] theorem State.complete_lvlptr : (s.complete v).lvlptr = s.lvlptr := rfl
@[simp] theorem State.complete_ctx : (s.complete v).ctx = s.ctx := rfl
@[simp] theorem State.complete_scr : (s.complete v).scr = s.scr := rfl
@[simp] theorem State.complete_bufidx : (s.complete v).bufidx = s.bufidx := rfl
@[simp] theorem State.complete_buf : (s.complete v).buf = s.buf := rfl
@[simp] theorem State.complete_stream : (s.complete v).stream = s.stream := rfl
@[simp] theorem State.complete_out : (s.complete v).out = s.out := rfl
@[simp] theorem State.complete_bufEpoch : (s.complete v).bufEpoch = s.bufEpoch := rfl
@[simp] theorem State.complete_session : (s.complete v).session = s.session := rfl
@[simp] theorem State.complete_port : (s.complete v).port = s.port := rfl
@[simp] theorem State.complete_actions : (s.complete v).actions = s.actions := rfl
@[simp] theorem State.complete_readLog : (s.complete v).readLog = s.readLog := rfl
end

section
variable (s : State) (code : ErrCode)
@[simp] theorem State.refuse_status : (s.refuse code).status = { s.status with err := code } := rfl
@[simp] theorem State.refuse_arg0 : (s.refuse code).arg0 = s.arg0 := rfl
@[simp] theorem State.refuse_arg1 : (s.refuse code).arg1 = s.arg1 := rfl
@[simp] theorem State.refuse_result : (s.refuse code).result = 0 := rfl
@[simp] theorem State.refuse_samples : (s.refuse code).samples = s.samples := rfl
@[simp] theorem State.refuse_channels : (s.refuse code).channels = s.channels := rfl
@[simp] theorem State.refuse_rate : (s.refuse code).rate = s.rate := rfl
@[simp] theorem State.refuse_levels : (s.refuse code).levels = s.levels := rfl
@[simp] theorem State.refuse_subblocks : (s.refuse code).subblocks = s.subblocks := rfl
@[simp] theorem State.refuse_samplesLeft : (s.refuse code).samplesLeft = s.samplesLeft := rfl
@[simp] theorem State.refuse_samplesReady : (s.refuse code).samplesReady = s.samplesReady := rfl
@[simp] theorem State.refuse_rdptr : (s.refuse code).rdptr = s.rdptr := rfl
@[simp] theorem State.refuse_pos : (s.refuse code).pos = s.pos := rfl
@[simp] theorem State.refuse_bitbuf : (s.refuse code).bitbuf = s.bitbuf := rfl
@[simp] theorem State.refuse_bitcnt : (s.refuse code).bitcnt = s.bitcnt := rfl
@[simp] theorem State.refuse_lvlptr : (s.refuse code).lvlptr = s.lvlptr := rfl
@[simp] theorem State.refuse_ctx : (s.refuse code).ctx = s.ctx := rfl
@[simp] theorem State.refuse_scr : (s.refuse code).scr = s.scr := rfl
@[simp] theorem State.refuse_bufidx : (s.refuse code).bufidx = s.bufidx := rfl
@[simp] theorem State.refuse_buf : (s.refuse code).buf = s.buf := rfl
@[simp] theorem State.refuse_stream : (s.refuse code).stream = s.stream := rfl
@[simp] theorem State.refuse_out : (s.refuse code).out = s.out := rfl
@[simp] theorem State.refuse_bufEpoch : (s.refuse code).bufEpoch = s.bufEpoch := rfl
@[simp] theorem State.refuse_session : (s.refuse code).session = s.session := rfl
@[simp] theorem State.refuse_port : (s.refuse code).port = s.port := rfl
@[simp] theorem State.refuse_actions : (s.refuse code).actions = s.actions := rfl
@[simp] theorem State.refuse_readLog : (s.refuse code).readLog = s.readLog := rfl
end

section
variable (s : State) (i : Nat) (v : Slot)
@[simp] theorem State.writeSlot_status : (s.writeSlot i v).status = s.status := rfl
@[simp] theorem State.writeSlot_arg0 : (s.writeSlot i v).arg0 = s.arg0 := rfl
@[simp] theorem State.writeSlot_arg1 : (s.writeSlot i v).arg1 = s.arg1 := rfl
@[simp] theorem State.writeSlot_result : (s.writeSlot i v).result = s.result := rfl
@[simp] theorem State.writeSlot_samples : (s.writeSlot i v).samples = s.samples := rfl
@[simp] theorem State.writeSlot_channels : (s.writeSlot i v).channels = s.channels := rfl
@[simp] theorem State.writeSlot_rate : (s.writeSlot i v).rate = s.rate := rfl
@[simp] theorem State.writeSlot_levels : (s.writeSlot i v).levels = s.levels := rfl
@[simp] theorem State.writeSlot_subblocks : (s.writeSlot i v).subblocks = s.subblocks := rfl
@[simp] theorem State.writeSlot_samplesLeft : (s.writeSlot i v).samplesLeft = s.samplesLeft := rfl
@[simp] theorem State.writeSlot_samplesReady : (s.writeSlot i v).samplesReady = s.samplesReady := rfl
@[simp] theorem State.writeSlot_rdptr : (s.writeSlot i v).rdptr = s.rdptr := rfl
@[simp] theorem State.writeSlot_pos : (s.writeSlot i v).pos = s.pos := rfl
@[simp] theorem State.writeSlot_bitbuf : (s.writeSlot i v).bitbuf = s.bitbuf := rfl
@[simp] theorem State.writeSlot_bitcnt : (s.writeSlot i v).bitcnt = s.bitcnt := rfl
@[simp] theorem State.writeSlot_lvlptr : (s.writeSlot i v).lvlptr = s.lvlptr := rfl
@[simp] theorem State.writeSlot_ctx : (s.writeSlot i v).ctx = s.ctx := rfl
@[simp] theorem State.writeSlot_scr : (s.writeSlot i v).scr = s.scr := rfl
@[simp] theorem State.writeSlot_bufidx : (s.writeSlot i v).bufidx = s.bufidx := rfl
@[simp] theorem State.writeSlot_buf : (s.writeSlot i v).buf = s.buf.write i v := rfl
@[simp] theorem State.writeSlot_stream : (s.writeSlot i v).stream = s.stream := rfl
@[simp] theorem State.writeSlot_out : (s.writeSlot i v).out = s.out := rfl
@[simp] theorem State.writeSlot_bufEpoch : (s.writeSlot i v).bufEpoch = s.bufEpoch := rfl
@[simp] theorem State.writeSlot_session : (s.writeSlot i v).session = s.session := rfl
@[simp] theorem State.writeSlot_port : (s.writeSlot i v).port = s.port := rfl
@[simp] theorem State.writeSlot_actions : (s.writeSlot i v).actions = s.actions := rfl
@[simp] theorem State.writeSlot_readLog : (s.writeSlot i v).readLog = s.readLog := rfl
end

section
variable (s : State) (i : Word) (v : Sample)
@[simp] theorem State.writeOut_status : (s.writeOut i v).status = s.status := rfl
@[simp] theorem State.writeOut_arg0 : (s.writeOut i v).arg0 = s.arg0 := rfl
@[simp] theorem State.writeOut_arg1 : (s.writeOut i v).arg1 = s.arg1 := rfl
@[simp] theorem State.writeOut_result : (s.writeOut i v).result = s.result := rfl
@[simp] theorem State.writeOut_samples : (s.writeOut i v).samples = s.samples := rfl
@[simp] theorem State.writeOut_channels : (s.writeOut i v).channels = s.channels := rfl
@[simp] theorem State.writeOut_rate : (s.writeOut i v).rate = s.rate := rfl
@[simp] theorem State.writeOut_levels : (s.writeOut i v).levels = s.levels := rfl
@[simp] theorem State.writeOut_subblocks : (s.writeOut i v).subblocks = s.subblocks := rfl
@[simp] theorem State.writeOut_samplesLeft : (s.writeOut i v).samplesLeft = s.samplesLeft := rfl
@[simp] theorem State.writeOut_samplesReady : (s.writeOut i v).samplesReady = s.samplesReady := rfl
@[simp] theorem State.writeOut_rdptr : (s.writeOut i v).rdptr = s.rdptr := rfl
@[simp] theorem State.writeOut_pos : (s.writeOut i v).pos = s.pos := rfl
@[simp] theorem State.writeOut_bitbuf : (s.writeOut i v).bitbuf = s.bitbuf := rfl
@[simp] theorem State.writeOut_bitcnt : (s.writeOut i v).bitcnt = s.bitcnt := rfl
@[simp] theorem State.writeOut_lvlptr : (s.writeOut i v).lvlptr = s.lvlptr := rfl
@[simp] theorem State.writeOut_ctx : (s.writeOut i v).ctx = s.ctx := rfl
@[simp] theorem State.writeOut_scr : (s.writeOut i v).scr = s.scr := rfl
@[simp] theorem State.writeOut_bufidx : (s.writeOut i v).bufidx = s.bufidx := rfl
@[simp] theorem State.writeOut_buf : (s.writeOut i v).buf = s.buf := rfl
@[simp] theorem State.writeOut_stream : (s.writeOut i v).stream = s.stream := rfl
@[simp] theorem State.writeOut_out : (s.writeOut i v).out = s.out.write i.toNat v := rfl
@[simp] theorem State.writeOut_bufEpoch : (s.writeOut i v).bufEpoch = s.bufEpoch := rfl
@[simp] theorem State.writeOut_session : (s.writeOut i v).session = s.session := rfl
@[simp] theorem State.writeOut_port : (s.writeOut i v).port = s.port := rfl
@[simp] theorem State.writeOut_actions : (s.writeOut i v).actions = s.actions := rfl
@[simp] theorem State.writeOut_readLog : (s.writeOut i v).readLog = s.readLog := rfl
end

section
variable (s : State)
@[simp] theorem State.fetchByte_status : s.fetchByte.status = s.status := rfl
@[simp] theorem State.fetchByte_arg0 : s.fetchByte.arg0 = s.arg0 := rfl
@[simp] theorem State.fetchByte_arg1 : s.fetchByte.arg1 = s.arg1 := rfl
@[simp] theorem State.fetchByte_result : s.fetchByte.result = s.result := rfl
@[simp] theorem State.fetchByte_samples : s.fetchByte.samples = s.samples := rfl
@[simp] theorem State.fetchByte_channels : s.fetchByte.channels = s.channels := rfl
@[simp] theorem State.fetchByte_rate : s.fetchByte.rate = s.rate := rfl
@[simp] theorem State.fetchByte_levels : s.fetchByte.levels = s.levels := rfl
@[simp] theorem State.fetchByte_subblocks : s.fetchByte.subblocks = s.subblocks := rfl
@[simp] theorem State.fetchByte_samplesLeft : s.fetchByte.samplesLeft = s.samplesLeft := rfl
@[simp] theorem State.fetchByte_samplesReady : s.fetchByte.samplesReady = s.samplesReady := rfl
@[simp] theorem State.fetchByte_rdptr : s.fetchByte.rdptr = s.rdptr := rfl
@[simp] theorem State.fetchByte_pos : s.fetchByte.pos = s.pos + 1 := rfl
@[simp] theorem State.fetchByte_bitbuf : s.fetchByte.bitbuf = s.bitbuf ||| (((s.stream[s.pos.toNat]?).getD 0).setWidth 32 <<< s.bitcnt.toNat) := rfl
@[simp] theorem State.fetchByte_bitcnt : s.fetchByte.bitcnt = s.bitcnt + 8 := rfl
@[simp] theorem State.fetchByte_lvlptr : s.fetchByte.lvlptr = s.lvlptr := rfl
@[simp] theorem State.fetchByte_ctx : s.fetchByte.ctx = s.ctx := rfl
@[simp] theorem State.fetchByte_scr : s.fetchByte.scr = s.scr := rfl
@[simp] theorem State.fetchByte_bufidx : s.fetchByte.bufidx = s.bufidx := rfl
@[simp] theorem State.fetchByte_buf : s.fetchByte.buf = s.buf := rfl
@[simp] theorem State.fetchByte_stream : s.fetchByte.stream = s.stream := rfl
@[simp] theorem State.fetchByte_out : s.fetchByte.out = s.out := rfl
@[simp] theorem State.fetchByte_bufEpoch : s.fetchByte.bufEpoch = s.bufEpoch := rfl
@[simp] theorem State.fetchByte_session : s.fetchByte.session = s.session := rfl
@[simp] theorem State.fetchByte_port : s.fetchByte.port = s.port := rfl
@[simp] theorem State.fetchByte_actions : s.fetchByte.actions = s.actions := rfl
@[simp] theorem State.fetchByte_readLog : s.fetchByte.readLog = s.readLog := rfl
end

section
variable (s : State) (w : Nat)
@[simp] theorem State.consumeBits_status : (s.consumeBits w).status = s.status := rfl
@[simp] theorem State.consumeBits_arg0 : (s.consumeBits w).arg0 = s.arg0 := rfl
@[simp] theorem State.consumeBits_arg1 : (s.consumeBits w).arg1 = s.arg1 := rfl
@[simp] theorem State.consumeBits_result : (s.consumeBits w).result = s.result := rfl
@[simp] theorem State.consumeBits_samples : (s.consumeBits w).samples = s.samples := rfl
@[simp] theorem State.consumeBits_channels : (s.consumeBits w).channels = s.channels := rfl
@[simp] theorem State.consumeBits_rate : (s.consumeBits w).rate = s.rate := rfl
@[simp] theorem State.consumeBits_levels : (s.consumeBits w).levels = s.levels := rfl
@[simp] theorem State.consumeBits_subblocks : (s.consumeBits w).subblocks = s.subblocks := rfl
@[simp] theorem State.consumeBits_samplesLeft : (s.consumeBits w).samplesLeft = s.samplesLeft := rfl
@[simp] theorem State.consumeBits_samplesReady : (s.consumeBits w).samplesReady = s.samplesReady := rfl
@[simp] theorem State.consumeBits_rdptr : (s.consumeBits w).rdptr = s.rdptr := rfl
@[simp] theorem State.consumeBits_pos : (s.consumeBits w).pos = s.pos := rfl
@[simp] theorem State.consumeBits_bitbuf : (s.consumeBits w).bitbuf = s.bitbuf >>> w := rfl
@[simp] theorem State.consumeBits_bitcnt : (s.consumeBits w).bitcnt = s.bitcnt - BitVec.ofNat 5 w := rfl
@[simp] theorem State.consumeBits_lvlptr : (s.consumeBits w).lvlptr = s.lvlptr := rfl
@[simp] theorem State.consumeBits_ctx : (s.consumeBits w).ctx = s.ctx := rfl
@[simp] theorem State.consumeBits_scr : (s.consumeBits w).scr = s.scr := rfl
@[simp] theorem State.consumeBits_bufidx : (s.consumeBits w).bufidx = s.bufidx := rfl
@[simp] theorem State.consumeBits_buf : (s.consumeBits w).buf = s.buf := rfl
@[simp] theorem State.consumeBits_stream : (s.consumeBits w).stream = s.stream := rfl
@[simp] theorem State.consumeBits_out : (s.consumeBits w).out = s.out := rfl
@[simp] theorem State.consumeBits_bufEpoch : (s.consumeBits w).bufEpoch = s.bufEpoch := rfl
@[simp] theorem State.consumeBits_session : (s.consumeBits w).session = s.session := rfl
@[simp] theorem State.consumeBits_port : (s.consumeBits w).port = s.port := rfl
@[simp] theorem State.consumeBits_actions : (s.consumeBits w).actions = s.actions := rfl
@[simp] theorem State.consumeBits_readLog : (s.consumeBits w).readLog = s.readLog := rfl
end

section
variable (s : State) (w : Nat)
@[simp] theorem State.setCtx_status : (s.setCtx w).status = s.status := rfl
@[simp] theorem State.setCtx_arg0 : (s.setCtx w).arg0 = s.arg0 := rfl
@[simp] theorem State.setCtx_arg1 : (s.setCtx w).arg1 = s.arg1 := rfl
@[simp] theorem State.setCtx_result : (s.setCtx w).result = s.result := rfl
@[simp] theorem State.setCtx_samples : (s.setCtx w).samples = s.samples := rfl
@[simp] theorem State.setCtx_channels : (s.setCtx w).channels = s.channels := rfl
@[simp] theorem State.setCtx_rate : (s.setCtx w).rate = s.rate := rfl
@[simp] theorem State.setCtx_levels : (s.setCtx w).levels = s.levels := rfl
@[simp] theorem State.setCtx_subblocks : (s.setCtx w).subblocks = s.subblocks := rfl
@[simp] theorem State.setCtx_samplesLeft : (s.setCtx w).samplesLeft = s.samplesLeft := rfl
@[simp] theorem State.setCtx_samplesReady : (s.setCtx w).samplesReady = s.samplesReady := rfl
@[simp] theorem State.setCtx_rdptr : (s.setCtx w).rdptr = s.rdptr := rfl
@[simp] theorem State.setCtx_pos : (s.setCtx w).pos = s.pos := rfl
@[simp] theorem State.setCtx_bitbuf : (s.setCtx w).bitbuf = s.bitbuf := rfl
@[simp] theorem State.setCtx_bitcnt : (s.setCtx w).bitcnt = s.bitcnt := rfl
@[simp] theorem State.setCtx_lvlptr : (s.setCtx w).lvlptr = s.lvlptr := rfl
@[simp] theorem State.setCtx_ctx : (s.setCtx w).ctx = s.ctx.set s.lvlptr.toNat (BitVec.ofNat 5 w) s.lvlptr.isLt := rfl
@[simp] theorem State.setCtx_scr : (s.setCtx w).scr = s.scr := rfl
@[simp] theorem State.setCtx_bufidx : (s.setCtx w).bufidx = s.bufidx := rfl
@[simp] theorem State.setCtx_buf : (s.setCtx w).buf = s.buf := rfl
@[simp] theorem State.setCtx_stream : (s.setCtx w).stream = s.stream := rfl
@[simp] theorem State.setCtx_out : (s.setCtx w).out = s.out := rfl
@[simp] theorem State.setCtx_bufEpoch : (s.setCtx w).bufEpoch = s.bufEpoch := rfl
@[simp] theorem State.setCtx_session : (s.setCtx w).session = s.session := rfl
@[simp] theorem State.setCtx_port : (s.setCtx w).port = s.port := rfl
@[simp] theorem State.setCtx_actions : (s.setCtx w).actions = s.actions := rfl
@[simp] theorem State.setCtx_readLog : (s.setCtx w).readLog = s.readLog := rfl
end

section
variable (s : State)
@[simp] theorem State.advanceLevel_status : s.advanceLevel.status = s.status := rfl
@[simp] theorem State.advanceLevel_arg0 : s.advanceLevel.arg0 = s.arg0 := rfl
@[simp] theorem State.advanceLevel_arg1 : s.advanceLevel.arg1 = s.arg1 := rfl
@[simp] theorem State.advanceLevel_result : s.advanceLevel.result = s.result := rfl
@[simp] theorem State.advanceLevel_samples : s.advanceLevel.samples = s.samples := rfl
@[simp] theorem State.advanceLevel_channels : s.advanceLevel.channels = s.channels := rfl
@[simp] theorem State.advanceLevel_rate : s.advanceLevel.rate = s.rate := rfl
@[simp] theorem State.advanceLevel_levels : s.advanceLevel.levels = s.levels := rfl
@[simp] theorem State.advanceLevel_subblocks : s.advanceLevel.subblocks = s.subblocks := rfl
@[simp] theorem State.advanceLevel_samplesLeft : s.advanceLevel.samplesLeft = s.samplesLeft := rfl
@[simp] theorem State.advanceLevel_samplesReady : s.advanceLevel.samplesReady = s.samplesReady := rfl
@[simp] theorem State.advanceLevel_rdptr : s.advanceLevel.rdptr = s.rdptr := rfl
@[simp] theorem State.advanceLevel_pos : s.advanceLevel.pos = s.pos := rfl
@[simp] theorem State.advanceLevel_bitbuf : s.advanceLevel.bitbuf = s.bitbuf := rfl
@[simp] theorem State.advanceLevel_bitcnt : s.advanceLevel.bitcnt = s.bitcnt := rfl
@[simp] theorem State.advanceLevel_lvlptr : s.advanceLevel.lvlptr = BitVec.ofNat 4 ((s.lvlptr.toNat + 1) % s.levels.toNat) := rfl
@[simp] theorem State.advanceLevel_ctx : s.advanceLevel.ctx = s.ctx := rfl
@[simp] theorem State.advanceLevel_scr : s.advanceLevel.scr = s.scr := rfl
@[simp] theorem State.advanceLevel_bufidx : s.advanceLevel.bufidx = s.bufidx := rfl
@[simp] theorem State.advanceLevel_buf : s.advanceLevel.buf = s.buf := rfl
@[simp] theorem State.advanceLevel_stream : s.advanceLevel.stream = s.stream := rfl
@[simp] theorem State.advanceLevel_out : s.advanceLevel.out = s.out := rfl
@[simp] theorem State.advanceLevel_bufEpoch : s.advanceLevel.bufEpoch = s.bufEpoch := rfl
@[simp] theorem State.advanceLevel_session : s.advanceLevel.session = s.session := rfl
@[simp] theorem State.advanceLevel_port : s.advanceLevel.port = s.port := rfl
@[simp] theorem State.advanceLevel_actions : s.advanceLevel.actions = s.actions := rfl
@[simp] theorem State.advanceLevel_readLog : s.advanceLevel.readLog = s.readLog := rfl
end

section
variable (s : State) (l : Nat) (v : Slot)
@[simp] theorem State.writeScr_status : (s.writeScr l v).status = s.status := rfl
@[simp] theorem State.writeScr_arg0 : (s.writeScr l v).arg0 = s.arg0 := rfl
@[simp] theorem State.writeScr_arg1 : (s.writeScr l v).arg1 = s.arg1 := rfl
@[simp] theorem State.writeScr_result : (s.writeScr l v).result = s.result := rfl
@[simp] theorem State.writeScr_samples : (s.writeScr l v).samples = s.samples := rfl
@[simp] theorem State.writeScr_channels : (s.writeScr l v).channels = s.channels := rfl
@[simp] theorem State.writeScr_rate : (s.writeScr l v).rate = s.rate := rfl
@[simp] theorem State.writeScr_levels : (s.writeScr l v).levels = s.levels := rfl
@[simp] theorem State.writeScr_subblocks : (s.writeScr l v).subblocks = s.subblocks := rfl
@[simp] theorem State.writeScr_samplesLeft : (s.writeScr l v).samplesLeft = s.samplesLeft := rfl
@[simp] theorem State.writeScr_samplesReady : (s.writeScr l v).samplesReady = s.samplesReady := rfl
@[simp] theorem State.writeScr_rdptr : (s.writeScr l v).rdptr = s.rdptr := rfl
@[simp] theorem State.writeScr_pos : (s.writeScr l v).pos = s.pos := rfl
@[simp] theorem State.writeScr_bitbuf : (s.writeScr l v).bitbuf = s.bitbuf := rfl
@[simp] theorem State.writeScr_bitcnt : (s.writeScr l v).bitcnt = s.bitcnt := rfl
@[simp] theorem State.writeScr_lvlptr : (s.writeScr l v).lvlptr = s.lvlptr := rfl
@[simp] theorem State.writeScr_ctx : (s.writeScr l v).ctx = s.ctx := rfl
@[simp] theorem State.writeScr_scr : (s.writeScr l v).scr = s.scr.setIfInBounds l v := rfl
@[simp] theorem State.writeScr_bufidx : (s.writeScr l v).bufidx = s.bufidx := rfl
@[simp] theorem State.writeScr_buf : (s.writeScr l v).buf = s.buf := rfl
@[simp] theorem State.writeScr_stream : (s.writeScr l v).stream = s.stream := rfl
@[simp] theorem State.writeScr_out : (s.writeScr l v).out = s.out := rfl
@[simp] theorem State.writeScr_bufEpoch : (s.writeScr l v).bufEpoch = s.bufEpoch := rfl
@[simp] theorem State.writeScr_session : (s.writeScr l v).session = s.session := rfl
@[simp] theorem State.writeScr_port : (s.writeScr l v).port = s.port := rfl
@[simp] theorem State.writeScr_actions : (s.writeScr l v).actions = s.actions := rfl
@[simp] theorem State.writeScr_readLog : (s.writeScr l v).readLog = s.readLog := rfl
end

section
variable (s : State)
@[simp] theorem State.clearScr_status : s.clearScr.status = s.status := rfl
@[simp] theorem State.clearScr_arg0 : s.clearScr.arg0 = s.arg0 := rfl
@[simp] theorem State.clearScr_arg1 : s.clearScr.arg1 = s.arg1 := rfl
@[simp] theorem State.clearScr_result : s.clearScr.result = s.result := rfl
@[simp] theorem State.clearScr_samples : s.clearScr.samples = s.samples := rfl
@[simp] theorem State.clearScr_channels : s.clearScr.channels = s.channels := rfl
@[simp] theorem State.clearScr_rate : s.clearScr.rate = s.rate := rfl
@[simp] theorem State.clearScr_levels : s.clearScr.levels = s.levels := rfl
@[simp] theorem State.clearScr_subblocks : s.clearScr.subblocks = s.subblocks := rfl
@[simp] theorem State.clearScr_samplesLeft : s.clearScr.samplesLeft = s.samplesLeft := rfl
@[simp] theorem State.clearScr_samplesReady : s.clearScr.samplesReady = s.samplesReady := rfl
@[simp] theorem State.clearScr_rdptr : s.clearScr.rdptr = s.rdptr := rfl
@[simp] theorem State.clearScr_pos : s.clearScr.pos = s.pos := rfl
@[simp] theorem State.clearScr_bitbuf : s.clearScr.bitbuf = s.bitbuf := rfl
@[simp] theorem State.clearScr_bitcnt : s.clearScr.bitcnt = s.bitcnt := rfl
@[simp] theorem State.clearScr_lvlptr : s.clearScr.lvlptr = s.lvlptr := rfl
@[simp] theorem State.clearScr_ctx : s.clearScr.ctx = s.ctx := rfl
@[simp] theorem State.clearScr_scr : s.clearScr.scr = Vector.replicate 16 0 := rfl
@[simp] theorem State.clearScr_bufidx : s.clearScr.bufidx = s.bufidx := rfl
@[simp] theorem State.clearScr_buf : s.clearScr.buf = s.buf := rfl
@[simp] theorem State.clearScr_stream : s.clearScr.stream = s.stream := rfl
@[simp] theorem State.clearScr_out : s.clearScr.out = s.out := rfl
@[simp] theorem State.clearScr_bufEpoch : s.clearScr.bufEpoch = s.bufEpoch := rfl
@[simp] theorem State.clearScr_session : s.clearScr.session = s.session := rfl
@[simp] theorem State.clearScr_port : s.clearScr.port = s.port := rfl
@[simp] theorem State.clearScr_actions : s.clearScr.actions = s.actions := rfl
@[simp] theorem State.clearScr_readLog : s.clearScr.readLog = s.readLog := rfl
end

section
variable (s : State)
@[simp] theorem State.resetBlock_status : s.resetBlock.status = Status.reset := rfl
@[simp] theorem State.resetBlock_arg0 : s.resetBlock.arg0 = 0 := rfl
@[simp] theorem State.resetBlock_arg1 : s.resetBlock.arg1 = 0 := rfl
@[simp] theorem State.resetBlock_result : s.resetBlock.result = 0 := rfl
@[simp] theorem State.resetBlock_samples : s.resetBlock.samples = 0 := rfl
@[simp] theorem State.resetBlock_channels : s.resetBlock.channels = 0 := rfl
@[simp] theorem State.resetBlock_rate : s.resetBlock.rate = 0 := rfl
@[simp] theorem State.resetBlock_levels : s.resetBlock.levels = 0 := rfl
@[simp] theorem State.resetBlock_subblocks : s.resetBlock.subblocks = 0 := rfl
@[simp] theorem State.resetBlock_samplesLeft : s.resetBlock.samplesLeft = 0 := rfl
@[simp] theorem State.resetBlock_samplesReady : s.resetBlock.samplesReady = 0 := rfl
@[simp] theorem State.resetBlock_rdptr : s.resetBlock.rdptr = 0 := rfl
@[simp] theorem State.resetBlock_pos : s.resetBlock.pos = 0 := rfl
@[simp] theorem State.resetBlock_bitbuf : s.resetBlock.bitbuf = 0 := rfl
@[simp] theorem State.resetBlock_bitcnt : s.resetBlock.bitcnt = 0 := rfl
@[simp] theorem State.resetBlock_lvlptr : s.resetBlock.lvlptr = 0 := rfl
@[simp] theorem State.resetBlock_ctx : s.resetBlock.ctx = Vector.replicate 16 0 := rfl
@[simp] theorem State.resetBlock_scr : s.resetBlock.scr = Vector.replicate 16 0 := rfl
@[simp] theorem State.resetBlock_bufidx : s.resetBlock.bufidx = 0 := rfl
@[simp] theorem State.resetBlock_buf : s.resetBlock.buf = [] := rfl
@[simp] theorem State.resetBlock_stream : s.resetBlock.stream = s.stream := rfl
@[simp] theorem State.resetBlock_out : s.resetBlock.out = s.out := rfl
@[simp] theorem State.resetBlock_bufEpoch : s.resetBlock.bufEpoch = s.bufEpoch + 1 := rfl
@[simp] theorem State.resetBlock_session : s.resetBlock.session = .fresh := rfl
@[simp] theorem State.resetBlock_port : s.resetBlock.port = .idle := rfl
@[simp] theorem State.resetBlock_actions : s.resetBlock.actions = s.actions := rfl
@[simp] theorem State.resetBlock_readLog : s.resetBlock.readLog = s.readLog := rfl
end

section
variable (s : State) (e : FatalError)
@[simp] theorem State.raise_status : (s.raise e).status = { Status.reset with fault := true, fcode := e.fatalCode, fsub := e.subUnit, err := e.errCode } := rfl
@[simp] theorem State.raise_arg0 : (s.raise e).arg0 = s.arg0 := rfl
@[simp] theorem State.raise_arg1 : (s.raise e).arg1 = s.arg1 := rfl
@[simp] theorem State.raise_result : (s.raise e).result = 0 := rfl
@[simp] theorem State.raise_samples : (s.raise e).samples = 0 := rfl
@[simp] theorem State.raise_channels : (s.raise e).channels = 0 := rfl
@[simp] theorem State.raise_rate : (s.raise e).rate = 0 := rfl
@[simp] theorem State.raise_levels : (s.raise e).levels = 0 := rfl
@[simp] theorem State.raise_subblocks : (s.raise e).subblocks = 0 := rfl
@[simp] theorem State.raise_samplesLeft : (s.raise e).samplesLeft = 0 := rfl
@[simp] theorem State.raise_samplesReady : (s.raise e).samplesReady = 0 := rfl
@[simp] theorem State.raise_rdptr : (s.raise e).rdptr = 0 := rfl
@[simp] theorem State.raise_pos : (s.raise e).pos = 0 := rfl
@[simp] theorem State.raise_bitbuf : (s.raise e).bitbuf = 0 := rfl
@[simp] theorem State.raise_bitcnt : (s.raise e).bitcnt = 0 := rfl
@[simp] theorem State.raise_lvlptr : (s.raise e).lvlptr = 0 := rfl
@[simp] theorem State.raise_ctx : (s.raise e).ctx = Vector.replicate 16 0 := rfl
@[simp] theorem State.raise_scr : (s.raise e).scr = Vector.replicate 16 0 := rfl
@[simp] theorem State.raise_bufidx : (s.raise e).bufidx = s.bufidx := rfl
@[simp] theorem State.raise_buf : (s.raise e).buf = s.buf := rfl
@[simp] theorem State.raise_stream : (s.raise e).stream = s.stream := rfl
@[simp] theorem State.raise_out : (s.raise e).out = s.out := rfl
@[simp] theorem State.raise_bufEpoch : (s.raise e).bufEpoch = s.bufEpoch := rfl
@[simp] theorem State.raise_session : (s.raise e).session = s.session := rfl
@[simp] theorem State.raise_port : (s.raise e).port = s.port := rfl
@[simp] theorem State.raise_actions : (s.raise e).actions = s.actions := rfl
@[simp] theorem State.raise_readLog : (s.raise e).readLog = s.readLog := rfl
end

section
variable (s : State) (rest : List HostAction)
@[simp] theorem State.popAction_status : (s.popAction rest).status = s.status := rfl
@[simp] theorem State.popAction_arg0 : (s.popAction rest).arg0 = s.arg0 := rfl
@[simp] theorem State.popAction_arg1 : (s.popAction rest).arg1 = s.arg1 := rfl
@[simp] theorem State.popAction_result : (s.popAction rest).result = s.result := rfl
@[simp] theorem State.popAction_samples : (s.popAction rest).samples = s.samples := rfl
@[simp] theorem State.popAction_channels : (s.popAction rest).channels = s.channels := rfl
@[simp] theorem State.popAction_rate : (s.popAction rest).rate = s.rate := rfl
@[simp] theorem State.popAction_levels : (s.popAction rest).levels = s.levels := rfl
@[simp] theorem State.popAction_subblocks : (s.popAction rest).subblocks = s.subblocks := rfl
@[simp] theorem State.popAction_samplesLeft : (s.popAction rest).samplesLeft = s.samplesLeft := rfl
@[simp] theorem State.popAction_samplesReady : (s.popAction rest).samplesReady = s.samplesReady := rfl
@[simp] theorem State.popAction_rdptr : (s.popAction rest).rdptr = s.rdptr := rfl
@[simp] theorem State.popAction_pos : (s.popAction rest).pos = s.pos := rfl
@[simp] theorem State.popAction_bitbuf : (s.popAction rest).bitbuf = s.bitbuf := rfl
@[simp] theorem State.popAction_bitcnt : (s.popAction rest).bitcnt = s.bitcnt := rfl
@[simp] theorem State.popAction_lvlptr : (s.popAction rest).lvlptr = s.lvlptr := rfl
@[simp] theorem State.popAction_ctx : (s.popAction rest).ctx = s.ctx := rfl
@[simp] theorem State.popAction_scr : (s.popAction rest).scr = s.scr := rfl
@[simp] theorem State.popAction_bufidx : (s.popAction rest).bufidx = s.bufidx := rfl
@[simp] theorem State.popAction_buf : (s.popAction rest).buf = s.buf := rfl
@[simp] theorem State.popAction_stream : (s.popAction rest).stream = s.stream := rfl
@[simp] theorem State.popAction_out : (s.popAction rest).out = s.out := rfl
@[simp] theorem State.popAction_bufEpoch : (s.popAction rest).bufEpoch = s.bufEpoch := rfl
@[simp] theorem State.popAction_session : (s.popAction rest).session = s.session := rfl
@[simp] theorem State.popAction_port : (s.popAction rest).port = s.port := rfl
@[simp] theorem State.popAction_actions : (s.popAction rest).actions = rest := rfl
@[simp] theorem State.popAction_readLog : (s.popAction rest).readLog = s.readLog := rfl
end

section
variable (s : State)
@[simp] theorem State.markLive_status : s.markLive.status = s.status := rfl
@[simp] theorem State.markLive_arg0 : s.markLive.arg0 = s.arg0 := rfl
@[simp] theorem State.markLive_arg1 : s.markLive.arg1 = s.arg1 := rfl
@[simp] theorem State.markLive_result : s.markLive.result = s.result := rfl
@[simp] theorem State.markLive_samples : s.markLive.samples = s.samples := rfl
@[simp] theorem State.markLive_channels : s.markLive.channels = s.channels := rfl
@[simp] theorem State.markLive_rate : s.markLive.rate = s.rate := rfl
@[simp] theorem State.markLive_levels : s.markLive.levels = s.levels := rfl
@[simp] theorem State.markLive_subblocks : s.markLive.subblocks = s.subblocks := rfl
@[simp] theorem State.markLive_samplesLeft : s.markLive.samplesLeft = s.samplesLeft := rfl
@[simp] theorem State.markLive_samplesReady : s.markLive.samplesReady = s.samplesReady := rfl
@[simp] theorem State.markLive_rdptr : s.markLive.rdptr = s.rdptr := rfl
@[simp] theorem State.markLive_pos : s.markLive.pos = s.pos := rfl
@[simp] theorem State.markLive_bitbuf : s.markLive.bitbuf = s.bitbuf := rfl
@[simp] theorem State.markLive_bitcnt : s.markLive.bitcnt = s.bitcnt := rfl
@[simp] theorem State.markLive_lvlptr : s.markLive.lvlptr = s.lvlptr := rfl
@[simp] theorem State.markLive_ctx : s.markLive.ctx = s.ctx := rfl
@[simp] theorem State.markLive_scr : s.markLive.scr = s.scr := rfl
@[simp] theorem State.markLive_bufidx : s.markLive.bufidx = s.bufidx := rfl
@[simp] theorem State.markLive_buf : s.markLive.buf = s.buf := rfl
@[simp] theorem State.markLive_stream : s.markLive.stream = s.stream := rfl
@[simp] theorem State.markLive_out : s.markLive.out = s.out := rfl
@[simp] theorem State.markLive_bufEpoch : s.markLive.bufEpoch = s.bufEpoch := rfl
@[simp] theorem State.markLive_session : s.markLive.session = match s.session with | .changed => .changed | _ => .live := rfl
@[simp] theorem State.markLive_port : s.markLive.port = s.port := rfl
@[simp] theorem State.markLive_actions : s.markLive.actions = s.actions := rfl
@[simp] theorem State.markLive_readLog : s.markLive.readLog = s.readLog := rfl
end

section
variable (s : State) (bytes : List Byte)
@[simp] theorem State.attachStream_status : (s.attachStream bytes).status = s.status := rfl
@[simp] theorem State.attachStream_arg0 : (s.attachStream bytes).arg0 = s.arg0 := rfl
@[simp] theorem State.attachStream_arg1 : (s.attachStream bytes).arg1 = s.arg1 := rfl
@[simp] theorem State.attachStream_result : (s.attachStream bytes).result = s.result := rfl
@[simp] theorem State.attachStream_samples : (s.attachStream bytes).samples = s.samples := rfl
@[simp] theorem State.attachStream_channels : (s.attachStream bytes).channels = s.channels := rfl
@[simp] theorem State.attachStream_rate : (s.attachStream bytes).rate = s.rate := rfl
@[simp] theorem State.attachStream_levels : (s.attachStream bytes).levels = s.levels := rfl
@[simp] theorem State.attachStream_subblocks : (s.attachStream bytes).subblocks = s.subblocks := rfl
@[simp] theorem State.attachStream_samplesLeft : (s.attachStream bytes).samplesLeft = s.samplesLeft := rfl
@[simp] theorem State.attachStream_samplesReady : (s.attachStream bytes).samplesReady = s.samplesReady := rfl
@[simp] theorem State.attachStream_rdptr : (s.attachStream bytes).rdptr = s.rdptr := rfl
@[simp] theorem State.attachStream_pos : (s.attachStream bytes).pos = s.pos := rfl
@[simp] theorem State.attachStream_bitbuf : (s.attachStream bytes).bitbuf = s.bitbuf := rfl
@[simp] theorem State.attachStream_bitcnt : (s.attachStream bytes).bitcnt = s.bitcnt := rfl
@[simp] theorem State.attachStream_lvlptr : (s.attachStream bytes).lvlptr = s.lvlptr := rfl
@[simp] theorem State.attachStream_ctx : (s.attachStream bytes).ctx = s.ctx := rfl
@[simp] theorem State.attachStream_scr : (s.attachStream bytes).scr = s.scr := rfl
@[simp] theorem State.attachStream_bufidx : (s.attachStream bytes).bufidx = s.bufidx := rfl
@[simp] theorem State.attachStream_buf : (s.attachStream bytes).buf = s.buf := rfl
@[simp] theorem State.attachStream_stream : (s.attachStream bytes).stream = bytes := rfl
@[simp] theorem State.attachStream_out : (s.attachStream bytes).out = s.out := rfl
@[simp] theorem State.attachStream_bufEpoch : (s.attachStream bytes).bufEpoch = s.bufEpoch := rfl
@[simp] theorem State.attachStream_session : (s.attachStream bytes).session = match s.session with | .fresh => .fresh | _ => .changed := rfl
@[simp] theorem State.attachStream_port : (s.attachStream bytes).port = s.port := rfl
@[simp] theorem State.attachStream_actions : (s.attachStream bytes).actions = s.actions := rfl
@[simp] theorem State.attachStream_readLog : (s.attachStream bytes).readLog = s.readLog := rfl
end

section
variable (s : State) (v : Word)
@[simp] theorem State.logRead_status : (s.logRead v).status = s.status := rfl
@[simp] theorem State.logRead_arg0 : (s.logRead v).arg0 = s.arg0 := rfl
@[simp] theorem State.logRead_arg1 : (s.logRead v).arg1 = s.arg1 := rfl
@[simp] theorem State.logRead_result : (s.logRead v).result = s.result := rfl
@[simp] theorem State.logRead_samples : (s.logRead v).samples = s.samples := rfl
@[simp] theorem State.logRead_channels : (s.logRead v).channels = s.channels := rfl
@[simp] theorem State.logRead_rate : (s.logRead v).rate = s.rate := rfl
@[simp] theorem State.logRead_levels : (s.logRead v).levels = s.levels := rfl
@[simp] theorem State.logRead_subblocks : (s.logRead v).subblocks = s.subblocks := rfl
@[simp] theorem State.logRead_samplesLeft : (s.logRead v).samplesLeft = s.samplesLeft := rfl
@[simp] theorem State.logRead_samplesReady : (s.logRead v).samplesReady = s.samplesReady := rfl
@[simp] theorem State.logRead_rdptr : (s.logRead v).rdptr = s.rdptr := rfl
@[simp] theorem State.logRead_pos : (s.logRead v).pos = s.pos := rfl
@[simp] theorem State.logRead_bitbuf : (s.logRead v).bitbuf = s.bitbuf := rfl
@[simp] theorem State.logRead_bitcnt : (s.logRead v).bitcnt = s.bitcnt := rfl
@[simp] theorem State.logRead_lvlptr : (s.logRead v).lvlptr = s.lvlptr := rfl
@[simp] theorem State.logRead_ctx : (s.logRead v).ctx = s.ctx := rfl
@[simp] theorem State.logRead_scr : (s.logRead v).scr = s.scr := rfl
@[simp] theorem State.logRead_bufidx : (s.logRead v).bufidx = s.bufidx := rfl
@[simp] theorem State.logRead_buf : (s.logRead v).buf = s.buf := rfl
@[simp] theorem State.logRead_stream : (s.logRead v).stream = s.stream := rfl
@[simp] theorem State.logRead_out : (s.logRead v).out = s.out := rfl
@[simp] theorem State.logRead_bufEpoch : (s.logRead v).bufEpoch = s.bufEpoch := rfl
@[simp] theorem State.logRead_session : (s.logRead v).session = s.session := rfl
@[simp] theorem State.logRead_port : (s.logRead v).port = s.port := rfl
@[simp] theorem State.logRead_actions : (s.logRead v).actions = s.actions := rfl
@[simp] theorem State.logRead_readLog : (s.logRead v).readLog = s.readLog ++ [v] := rfl
end

section
variable (s : State) (r : CodeResult)
@[simp] theorem State.deliver_status : (s.deliver r).status = s.status := rfl
@[simp] theorem State.deliver_arg0 : (s.deliver r).arg0 = s.arg0 := rfl
@[simp] theorem State.deliver_arg1 : (s.deliver r).arg1 = s.arg1 := rfl
@[simp] theorem State.deliver_result : (s.deliver r).result = s.result := rfl
@[simp] theorem State.deliver_samples : (s.deliver r).samples = s.samples := rfl
@[simp] theorem State.deliver_channels : (s.deliver r).channels = s.channels := rfl
@[simp] theorem State.deliver_rate : (s.deliver r).rate = s.rate := rfl
@[simp] theorem State.deliver_levels : (s.deliver r).levels = s.levels := rfl
@[simp] theorem State.deliver_subblocks : (s.deliver r).subblocks = s.subblocks := rfl
@[simp] theorem State.deliver_samplesLeft : (s.deliver r).samplesLeft = s.samplesLeft := rfl
@[simp] theorem State.deliver_samplesReady : (s.deliver r).samplesReady = s.samplesReady := rfl
@[simp] theorem State.deliver_rdptr : (s.deliver r).rdptr = s.rdptr := rfl
@[simp] theorem State.deliver_pos : (s.deliver r).pos = s.pos := rfl
@[simp] theorem State.deliver_bitbuf : (s.deliver r).bitbuf = s.bitbuf := rfl
@[simp] theorem State.deliver_bitcnt : (s.deliver r).bitcnt = s.bitcnt := rfl
@[simp] theorem State.deliver_lvlptr : (s.deliver r).lvlptr = s.lvlptr := rfl
@[simp] theorem State.deliver_ctx : (s.deliver r).ctx = s.ctx := rfl
@[simp] theorem State.deliver_scr : (s.deliver r).scr = s.scr := rfl
@[simp] theorem State.deliver_bufidx : (s.deliver r).bufidx = s.bufidx := rfl
@[simp] theorem State.deliver_buf : (s.deliver r).buf = s.buf := rfl
@[simp] theorem State.deliver_stream : (s.deliver r).stream = s.stream := rfl
@[simp] theorem State.deliver_out : (s.deliver r).out = s.out := rfl
@[simp] theorem State.deliver_bufEpoch : (s.deliver r).bufEpoch = s.bufEpoch := rfl
@[simp] theorem State.deliver_session : (s.deliver r).session = s.session := rfl
@[simp] theorem State.deliver_port : (s.deliver r).port = .returned r := rfl
@[simp] theorem State.deliver_actions : (s.deliver r).actions = s.actions := rfl
@[simp] theorem State.deliver_readLog : (s.deliver r).readLog = s.readLog := rfl
end

section
variable (s : State)
@[simp] theorem State.unpackerReset_status : s.unpackerReset.status = { s.status with ufail := false, cause := .none } := rfl
@[simp] theorem State.unpackerReset_arg0 : s.unpackerReset.arg0 = s.arg0 := rfl
@[simp] theorem State.unpackerReset_arg1 : s.unpackerReset.arg1 = s.arg1 := rfl
@[simp] theorem State.unpackerReset_result : s.unpackerReset.result = s.result := rfl
@[simp] theorem State.unpackerReset_samples : s.unpackerReset.samples = s.samples := rfl
@[simp] theorem State.unpackerReset_channels : s.unpackerReset.channels = s.channels := rfl
@[simp] theorem State.unpackerReset_rate : s.unpackerReset.rate = s.rate := rfl
@[simp] theorem State.unpackerReset_levels : s.unpackerReset.levels = s.levels := rfl
@[simp] theorem State.unpackerReset_subblocks : s.unpackerReset.subblocks = s.subblocks := rfl
@[simp] theorem State.unpackerReset_samplesLeft : s.unpackerReset.samplesLeft = s.samplesLeft := rfl
@[simp] theorem State.unpackerReset_samplesReady : s.unpackerReset.samplesReady = s.samplesReady := rfl
@[simp] theorem State.unpackerReset_rdptr : s.unpackerReset.rdptr = s.rdptr := rfl
@[simp] theorem State.unpackerReset_pos : s.unpackerReset.pos = s.pos := rfl
@[simp] theorem State.unpackerReset_bitbuf : s.unpackerReset.bitbuf = 0 := rfl
@[simp] theorem State.unpackerReset_bitcnt : s.unpackerReset.bitcnt = 0 := rfl
@[simp] theorem State.unpackerReset_lvlptr : s.unpackerReset.lvlptr = 0 := rfl
@[simp] theorem State.unpackerReset_ctx : s.unpackerReset.ctx = Vector.ofFn fun i : Fin 16 => if i.val < s.levels.toNat then BitVec.ofNat 5 Config.W_INIT else 0 := rfl
@[simp] theorem State.unpackerReset_scr : s.unpackerReset.scr = s.scr := rfl
@[simp] theorem State.unpackerReset_bufidx : s.unpackerReset.bufidx = s.bufidx := rfl
@[simp] theorem State.unpackerReset_buf : s.unpackerReset.buf = s.buf := rfl
@[simp] theorem State.unpackerReset_stream : s.unpackerReset.stream = s.stream := rfl
@[simp] theorem State.unpackerReset_out : s.unpackerReset.out = s.out := rfl
@[simp] theorem State.unpackerReset_bufEpoch : s.unpackerReset.bufEpoch = s.bufEpoch := rfl
@[simp] theorem State.unpackerReset_session : s.unpackerReset.session = s.session := rfl
@[simp] theorem State.unpackerReset_port : s.unpackerReset.port = s.port := rfl
@[simp] theorem State.unpackerReset_actions : s.unpackerReset.actions = s.actions := rfl
@[simp] theorem State.unpackerReset_readLog : s.unpackerReset.readLog = s.readLog := rfl
end

section
variable (s : State) (w : Word)
@[simp] theorem State.withCommand_status : (s.withCommand w).status = s.status := rfl
@[simp] theorem State.withCommand_arg0 : (s.withCommand w).arg0 = s.arg0 := rfl
@[simp] theorem State.withCommand_arg1 : (s.withCommand w).arg1 = s.arg1 := rfl
@[simp] theorem State.withCommand_result : (s.withCommand w).result = s.result := rfl
@[simp] theorem State.withCommand_samples : (s.withCommand w).samples = s.samples := rfl
@[simp] theorem State.withCommand_channels : (s.withCommand w).channels = s.channels := rfl
@[simp] theorem State.withCommand_rate : (s.withCommand w).rate = s.rate := rfl
@[simp] theorem State.withCommand_levels : (s.withCommand w).levels = s.levels := rfl
@[simp] theorem State.withCommand_subblocks : (s.withCommand w).subblocks = s.subblocks := rfl
@[simp] theorem State.withCommand_samplesLeft : (s.withCommand w).samplesLeft = s.samplesLeft := rfl
@[simp] theorem State.withCommand_samplesReady : (s.withCommand w).samplesReady = s.samplesReady := rfl
@[simp] theorem State.withCommand_rdptr : (s.withCommand w).rdptr = s.rdptr := rfl
@[simp] theorem State.withCommand_pos : (s.withCommand w).pos = s.pos := rfl
@[simp] theorem State.withCommand_bitbuf : (s.withCommand w).bitbuf = s.bitbuf := rfl
@[simp] theorem State.withCommand_bitcnt : (s.withCommand w).bitcnt = s.bitcnt := rfl
@[simp] theorem State.withCommand_lvlptr : (s.withCommand w).lvlptr = s.lvlptr := rfl
@[simp] theorem State.withCommand_ctx : (s.withCommand w).ctx = s.ctx := rfl
@[simp] theorem State.withCommand_scr : (s.withCommand w).scr = s.scr := rfl
@[simp] theorem State.withCommand_bufidx : (s.withCommand w).bufidx = s.bufidx := rfl
@[simp] theorem State.withCommand_buf : (s.withCommand w).buf = s.buf := rfl
@[simp] theorem State.withCommand_stream : (s.withCommand w).stream = s.stream := rfl
@[simp] theorem State.withCommand_out : (s.withCommand w).out = s.out := rfl
@[simp] theorem State.withCommand_bufEpoch : (s.withCommand w).bufEpoch = s.bufEpoch := rfl
@[simp] theorem State.withCommand_session : (s.withCommand w).session = match s.session with | .changed => .live | x => x := rfl
@[simp] theorem State.withCommand_port : (s.withCommand w).port = .idle := rfl
@[simp] theorem State.withCommand_actions : (s.withCommand w).actions = .write 0 32 w :: s.actions := rfl
@[simp] theorem State.withCommand_readLog : (s.withCommand w).readLog = s.readLog := rfl
end

end Sys2Proof.Machine
end

