-- ==== Sys2Proof/Laws/Unpacker.lean ====
section
/-! SUPPORT. One lemma per shared operation of BU: what it can change, and that it keeps the context legal
(spec/41_unpacker.md R115, R116, R122, R125). -/

namespace Sys2Proof.Machine

/-- FetchBits' loop moves the cursor and the accumulator only. -/
theorem fillBits_frame (w n : Nat) (s : State) :
    ∃ p b c, fillBits w n s = { s with pos := p, bitbuf := b, bitcnt := c } := by
  induction n generalizing s with
  | zero => exact ⟨_, _, _, rfl⟩
  | succ n ih =>
    rw [fillBits]
    split
    · obtain ⟨p, b, c, h⟩ := ih s.fetchByte
      exact ⟨p, b, c, by rw [h]; rfl⟩
    · exact ⟨_, _, _, rfl⟩

/-- FetchBits moves the cursor and the accumulator only. -/
theorem fetchBits_frame (w : Nat) (s : State) :
    ∃ p b c, (fetchBits w s).2 = { s with pos := p, bitbuf := b, bitcnt := c } := by
  obtain ⟨p, b, c, h⟩ := fillBits_frame w w s
  unfold fetchBits
  rw [h]
  dsimp only
  split
  · exact ⟨_, _, _, rfl⟩
  · exact ⟨_, _, _, rfl⟩

/-- A code class moves the context and the level pointer only. -/
theorem classify_frame {w : Nat} (u : BitVec w) (s : State) :
    ∃ x l, (classify u s).2 = { s with ctx := x, lvlptr := l } := by
  unfold classify
  split
  · exact ⟨_, _, rfl⟩
  · split
    · exact ⟨_, _, rfl⟩
    · split
      · exact ⟨_, _, rfl⟩
      · exact ⟨_, _, rfl⟩

/-- ReadCode moves the cursor, the accumulator, the context and the level pointer only. -/
theorem readCode_frame (s : State) :
    ∃ p b c x l, (readCode s).2 = { s with pos := p, bitbuf := b, bitcnt := c, ctx := x, lvlptr := l } := by
  have hf := fetchBits_frame (s.ctxWidth s.lvlptr.toNat) s
  unfold readCode
  split
  · rename_i s' hs
    rw [hs] at hf
    obtain ⟨p, b, c, h⟩ := hf
    exact ⟨p, b, c, s.ctx, s.lvlptr, h⟩
  · rename_i u s' hs
    rw [hs] at hf
    obtain ⟨p, b, c, h⟩ := hf
    obtain ⟨x, l, h'⟩ := classify_frame u s'
    refine ⟨p, b, c, x, l, ?_⟩
    rw [h']
    simp only at h
    rw [h]

/-- GetOneBlock's loop changes BU's state, the buffer and the failure flags only. -/
theorem fillBlock_frame (n j : Nat) (s : State) :
    ∃ p b c x l m f k, (fillBlock n j s).2 =
      { s with pos := p, bitbuf := b, bitcnt := c, ctx := x, lvlptr := l, buf := m,
               status := { s.status with ufail := f, cause := k } } := by
  induction n generalizing j s with
  | zero => exact ⟨_, _, _, _, _, _, _, _, rfl⟩
  | succ n ih =>
    have hr := readCode_frame s
    rw [fillBlock]
    split
    · rename_i v s' hs
      rw [hs] at hr
      obtain ⟨p, b, c, x, l, h⟩ := hr
      obtain ⟨p', b', c', x', l', m, f, k, h'⟩ := ih (j + 1) (s'.writeSlot j (slotOfValue v))
      refine ⟨p', b', c', x', l', m, f, k, ?_⟩
      rw [h']
      simp only at h
      rw [h]
      rfl
    · rename_i s' hs
      rw [hs] at hr
      obtain ⟨p, b, c, x, l, h⟩ := hr
      exact ⟨p, b, c, x, l, _, _, _, by simp only at h; rw [h]; rfl⟩
    · rename_i s' hs
      rw [hs] at hr
      obtain ⟨p, b, c, x, l, h⟩ := hr
      exact ⟨p, b, c, x, l, _, _, _, by simp only at h; rw [h]; rfl⟩

/-- GetOneBlock changes BU's state, the buffer and the failure flags only. -/
theorem getOneBlock_frame (s : State) :
    ∃ p b c x l m f k, (getOneBlock s).2 =
      { s with pos := p, bitbuf := b, bitcnt := c, ctx := x, lvlptr := l, buf := m,
               status := { s.status with ufail := f, cause := k } } := by
  unfold getOneBlock
  split
  · exact ⟨_, _, _, _, _, _, _, _, rfl⟩
  · exact fillBlock_frame _ _ s

/-- The context is legal for the geometry, the level pointer and the file it is read from; nothing else matters. -/
theorem contextLegal_congr {s t : State} (hl : s.levels = t.levels) (hs : s.subblocks = t.subblocks)
    (hp : s.lvlptr = t.lvlptr) (hc : s.ctx = t.ctx) : s.contextLegal = t.contextLegal := by
  cases s
  cases t
  simp only at hl hs hp hc
  subst hl hs hp hc
  rfl

/-- What a legal context says. -/
theorem contextLegal_iff (s : State) : s.contextLegal = true ↔
    (1 ≤ s.levels.toNat ∧ s.levels.toNat ≤ 16 ∧ 1 ≤ s.subblocks.toNat ∧ s.subblocks.toNat ≤ 15) ∧
    s.lvlptr.toNat < s.levels.toNat ∧
    ∀ i < s.levels.toNat, 2 ≤ s.ctxWidth i ∧ s.ctxWidth i ≤ 16 := by
  simp [State.contextLegal, State.uGeomOK, Config.LEVELS_MAX, Config.SUBBLOCKS_MAX, Config.W_MIN, Config.W_MAX,
    and_assoc]

theorem ctxWidth_setCtx (s : State) (w i : Nat) (hw : w < 32) :
    (s.setCtx w).ctxWidth i = if i = s.lvlptr.toNat then w else s.ctxWidth i := by
  have hl : s.lvlptr.toNat < 16 := s.lvlptr.isLt
  unfold State.ctxWidth State.setCtx
  by_cases h : i = s.lvlptr.toNat
  · subst h
    have hl' : (s.lvlptr.toNat) < 16 := hl
    simp only [if_true]
    rw [Vector.getElem?_eq_getElem hl, Vector.getElem_set_self]
    simp
    omega
  · simp only [h, if_false]
    congr 2
    exact Vector.getElem?_set_ne _ (by omega)

/-- Moving to the next level keeps the context legal. -/
theorem contextLegal_advanceLevel (s : State) (h : s.contextLegal = true) : s.advanceLevel.contextLegal = true := by
  rw [contextLegal_iff] at h ⊢
  obtain ⟨hg, hl, hw⟩ := h
  refine ⟨hg, ?_, hw⟩
  show (BitVec.ofNat 4 ((s.lvlptr.toNat + 1) % s.levels.toNat)).toNat < s.levels.toNat
  have : (s.lvlptr.toNat + 1) % s.levels.toNat < s.levels.toNat := Nat.mod_lt _ (by omega)
  rw [BitVec.toNat_ofNat, Nat.mod_eq_of_lt (by omega)]
  exact this

/-- Writing a legal width and moving to the next level keeps the context legal. -/
theorem contextLegal_advance (s : State) (w : Nat) (h : s.contextLegal = true) (h2 : 2 ≤ w) (h16 : w ≤ 16) :
    ((s.setCtx w).advanceLevel).contextLegal = true := by
  refine contextLegal_advanceLevel _ ?_
  rw [contextLegal_iff] at h ⊢
  obtain ⟨hg, hl, hw⟩ := h
  refine ⟨hg, hl, fun i hi => ?_⟩
  rw [ctxWidth_setCtx _ _ _ (by omega)]
  split
  · exact ⟨h2, h16⟩
  · exact hw i hi

/-- A code class read at a legal width keeps the context legal. -/
theorem classify_legal {w : Nat} (u : BitVec w) (s : State) (h : s.contextLegal = true) (h2 : 2 ≤ w) (h16 : w ≤ 16) :
    (classify u s).2.contextLegal = true := by
  unfold classify
  split
  · exact h
  · split
    · exact contextLegal_advance s _ h (by simp [Config.W_MAX]; omega) (by simp [Config.W_MAX])
    · split
      · exact contextLegal_advance s _ h (by simp [Config.W_MIN]) (by simp [Config.W_MIN]; omega)
      · exact contextLegal_advanceLevel s h

/-- ReadCode keeps the context legal. -/
theorem readCode_legal (s : State) (h : s.contextLegal = true) : (readCode s).2.contextLegal = true := by
  have hw := ((contextLegal_iff s).1 h).2.2 _ ((contextLegal_iff s).1 h).2.1
  obtain ⟨p, b, c, hf⟩ := fetchBits_frame (s.ctxWidth s.lvlptr.toNat) s
  have hl : (fetchBits (s.ctxWidth s.lvlptr.toNat) s).2.contextLegal = true := by rw [hf]; exact h
  unfold readCode
  split
  · rename_i s' hs
    rw [hs] at hl
    exact hl
  · rename_i u s' hs
    rw [hs] at hl
    exact classify_legal u s' hl hw.1 hw.2

/-- GetOneBlock's loop keeps the context legal. -/
theorem fillBlock_legal (n j : Nat) (s : State) (h : s.contextLegal = true) :
    (fillBlock n j s).2.contextLegal = true := by
  induction n generalizing j s with
  | zero => exact h
  | succ n ih =>
    have hr := readCode_legal s h
    rw [fillBlock]
    split
    · rename_i v s' hs
      rw [hs] at hr
      exact ih (j + 1) _ hr
    · rename_i s' hs
      rw [hs] at hr
      exact hr
    · rename_i s' hs
      rw [hs] at hr
      exact hr

/-- GetOneBlock keeps the context legal. -/
theorem getOneBlock_legal (s : State) (h : s.contextLegal = true) : (getOneBlock s).2.contextLegal = true := by
  unfold getOneBlock
  split
  · exact h
  · exact fillBlock_legal _ _ s h

/-- GetOneBlock's loop writes `n` slots from slot `j` on at most. -/
theorem fillBlock_slots (n j : Nat) (s : State) (i : Nat) (h : j + n ≤ i) :
    (fillBlock n j s).2.readSlot i = s.readSlot i := by
  induction n generalizing j s with
  | zero => rfl
  | succ n ih =>
    obtain ⟨p, b, c, x, l, hf⟩ := readCode_frame s
    rw [fillBlock]
    rcases he : readCode s with ⟨v | _ | _, s'⟩ <;> rw [he] at hf <;> simp only at hf ⊢ <;> subst hf
    · rw [ih (j + 1) _ (by omega), State.readSlot_writeSlot, if_neg (by omega)]
      rfl
    · rfl
    · rfl

/-- GetOneBlock writes slots below SUBBLOCKS only. -/
theorem getOneBlock_slots (s : State) (i : Nat) (h : s.subblocks.toNat ≤ i) :
    (getOneBlock s).2.readSlot i = s.readSlot i := by
  unfold getOneBlock
  split
  · rfl
  · exact fillBlock_slots _ _ _ _ (by omega)

/-- GetOneBlock's loop that answers false has set UFAIL. -/
theorem fillBlock_fail (n j : Nat) (s : State) (h : (fillBlock n j s).1 = false) :
    (fillBlock n j s).2.status.ufail = true := by
  induction n generalizing j s with
  | zero => cases h
  | succ n ih =>
    rw [fillBlock] at h ⊢
    rcases he : readCode s with ⟨v | _ | _, s'⟩ <;> rw [he] at h <;> simp only at h ⊢
    · exact ih _ _ h
    · rfl
    · rfl

/-- A GetOneBlock that answers false has UFAIL set. -/
theorem getOneBlock_fail (s : State) (h : (getOneBlock s).1 = false) : (getOneBlock s).2.status.ufail = true := by
  unfold getOneBlock at h ⊢
  by_cases hu : s.status.ufail = true
  · rw [if_pos hu]
    exact hu
  · rw [if_neg hu] at h ⊢
    exact fillBlock_fail _ _ _ h

end Sys2Proof.Machine
end

