-- ==== Sys2Proof/Laws/Reconstruct.lean ====
section
/-! SUPPORT. One lemma per shared operation of RE and SEQ: what it can change (spec/42_decoder.md R137,
spec/43_stream.md R151, R153). -/

namespace Sys2Proof.Machine

/-- A step of a stage changes the buffer only. -/
theorem pairStep_frame (n : Nat) (edge : Slot) (i : Nat) (s : State) :
    ∃ m, pairStep n edge i s = { s with buf := m } := ⟨_, rfl⟩

/-- A stage changes the buffer only. -/
theorem runStage_frame (n : Nat) (edge : Slot) (k : Nat) (s : State) :
    ∃ m, runStage n edge k s = { s with buf := m } := by
  induction k generalizing s with
  | zero => exact ⟨_, rfl⟩
  | succ k ih =>
    obtain ⟨m, h⟩ := ih (pairStep n edge k s)
    exact ⟨m, by rw [runStage, h]; rfl⟩

/-- The stages change the buffer and the scratch file only. -/
theorem runStages_frame (k l n : Nat) (s : State) :
    ∃ m x, runStages k l n s = { s with buf := m, scr := x } := by
  induction k generalizing l n s with
  | zero => exact ⟨_, _, rfl⟩
  | succ k ih =>
    rw [runStages]
    obtain ⟨m, h⟩ := runStage_frame n ((s.writeScr l (s.readSlot (n - 1))).readScr l) n
      (s.writeScr l (s.readSlot (n - 1)))
    obtain ⟨m', x, h'⟩ := ih (l + 1) (2 * n)
      (runStage n ((s.writeScr l (s.readSlot (n - 1))).readScr l) n (s.writeScr l (s.readSlot (n - 1))))
    refine ⟨m', x, ?_⟩
    simp only [h'] at *
    rw [h]
    rfl

/-- DecodeData changes the buffer and the scratch file only. -/
theorem decodeData_frame (S : Nat) (s : State) : ∃ m x, decodeData S s = { s with buf := m, scr := x } :=
  runStages_frame _ _ _ _

/-- Refill changes BU's state, the buffer, the scratch file, the failure flags and SEQ's three counters only. -/
theorem refill_frame (s : State) :
    ∃ p b c x l m f k y r e d, (refill s).2 =
      { s with pos := p, bitbuf := b, bitcnt := c, ctx := x, lvlptr := l, buf := m,
               status := { s.status with ufail := f, cause := k },
               scr := y, samplesReady := r, samplesLeft := e, rdptr := d } := by
  obtain ⟨p, b, c, x, l, m, f, k, h⟩ := getOneBlock_frame s
  unfold refill
  split
  · rename_i s' hs
    rw [hs] at h
    exact ⟨p, b, c, x, l, m, f, k, _, _, _, _, by simp only at h; rw [h]⟩
  · rename_i s' hs
    rw [hs] at h
    simp only at h
    obtain ⟨m', y, h'⟩ := decodeData_frame s'.subblocks.toNat s'
    subst h
    dsimp only
    rw [h']
    exact ⟨p, b, c, x, l, m', f, k, y, _, _, _, rfl⟩

/-- Refill keeps the context legal. -/
theorem refill_legal (s : State) (h : s.contextLegal = true) : (refill s).2.contextLegal = true := by
  have hg := getOneBlock_legal s h
  unfold refill
  split
  · rename_i s' hs
    rw [hs] at hg
    exact hg
  · rename_i s' hs
    rw [hs] at hg
    obtain ⟨m', y, h'⟩ := decodeData_frame s'.subblocks.toNat s'
    dsimp only
    rw [h']
    exact hg

/-- READ's loop changes what Refill changes, and OUT. -/
theorem readLoop_frame (n q : Nat) (s : State) :
    ∃ p b c x l m f k y r e d o, (readLoop n q s).2 =
      { s with pos := p, bitbuf := b, bitcnt := c, ctx := x, lvlptr := l, buf := m,
               status := { s.status with ufail := f, cause := k },
               scr := y, samplesReady := r, samplesLeft := e, rdptr := d, out := o } := by
  induction n generalizing q s with
  | zero => exact ⟨_, _, _, _, _, _, _, _, _, _, _, _, _, rfl⟩
  | succ n ih =>
    rw [readLoop]
    split
    · split
      · exact ⟨_, _, _, _, _, _, _, _, _, _, _, _, _, rfl⟩
      · have hr := refill_frame s
        split
        · rename_i s' hs
          rw [hs] at hr
          obtain ⟨p, b, c, x, l, m, f, k, y, r, e, d, h⟩ := hr
          exact ⟨p, b, c, x, l, m, f, k, y, r, e, d, _, by simp only at h; rw [h]⟩
        · rename_i s' hs
          rw [hs] at hr
          obtain ⟨p, b, c, x, l, m, f, k, y, r, e, d, h⟩ := hr
          simp only at h
          obtain ⟨p', b', c', x', l', m', f', k', y', r', e', d', o', h'⟩ := ih (q + 1) (emitSample q s')
          refine ⟨p', b', c', x', l', m', f', k', y', r', e', d', o', ?_⟩
          rw [h', h]
          rfl
    · obtain ⟨p', b', c', x', l', m', f', k', y', r', e', d', o', h'⟩ := ih (q + 1) (emitSample q s)
      exact ⟨p', b', c', x', l', m', f', k', y', r', e', d', o', by rw [h']; rfl⟩

/-- READ's loop keeps the context legal. -/
theorem readLoop_legal (n q : Nat) (s : State) (h : s.contextLegal = true) :
    (readLoop n q s).2.contextLegal = true := by
  induction n generalizing q s with
  | zero => exact h
  | succ n ih =>
    rw [readLoop]
    split
    · split
      · exact h
      · have hr := refill_legal s h
        split
        · rename_i s' hs
          rw [hs] at hr
          exact hr
        · rename_i s' hs
          rw [hs] at hr
          exact ih (q + 1) _ hr
    · exact ih (q + 1) _ h

/-- A stage's own steps write below twice the span, so the buffer keeps its form and its bound. -/
theorem runStage_memory (n : Nat) (edge : Slot) (k bound : Nat) (s : State) (hk : 2 * k ≤ bound)
    (hw : s.buf.wf = true) (hb : s.buf.below bound = true) :
    (runStage n edge k s).buf.wf = true ∧ (runStage n edge k s).buf.below bound = true := by
  induction k generalizing s with
  | zero => exact ⟨hw, hb⟩
  | succ k ih =>
    rw [runStage]
    refine ih _ (by omega) ?_ ?_
    · exact Memory.wf_write _ _ _ (Memory.wf_write _ _ _ hw)
    · exact Memory.below_write _ _ _ _ (Memory.below_write _ _ _ _ hb (by omega)) (by omega)

/-- The stages write below the final span. -/
theorem runStages_memory (k l n bound : Nat) (s : State) (hn : 2 ^ k * n ≤ bound)
    (hw : s.buf.wf = true) (hb : s.buf.below bound = true) :
    (runStages k l n s).buf.wf = true ∧ (runStages k l n s).buf.below bound = true := by
  induction k generalizing l n s with
  | zero => exact ⟨hw, hb⟩
  | succ k ih =>
    rw [runStages]
    have h2 : 2 * n ≤ bound := by
      refine le_trans (Nat.mul_le_mul_right n ?_) hn
      rw [pow_succ]
      exact Nat.le_mul_of_pos_left 2 (Nat.two_pow_pos k)
    have hs := runStage_memory n ((s.writeScr l (s.readSlot (n - 1))).readScr l) n bound
      (s.writeScr l (s.readSlot (n - 1))) h2 hw hb
    exact ih _ _ _ (by rw [← mul_assoc, ← pow_succ]; exact hn) hs.1 hs.2

/-- What a stage leaves in every slot: below twice the span, the doubled slots and the sums of neighbours. -/
theorem runStage_slots (n : Nat) (edge : Slot) (k : Nat) (hk : k ≤ n) (s : State) (j : Nat) :
    (runStage n edge k s).readSlot j =
      if j < 2 * k then
        (if j % 2 = 0 then s.readSlot (j / 2) + s.readSlot (j / 2)
          else s.readSlot (j / 2) + (if j / 2 = n - 1 then edge else s.readSlot (j / 2 + 1)))
      else s.readSlot j := by
  induction k generalizing s with
  | zero => rfl
  | succ k ih =>
    rw [runStage, ih (by omega)]
    have hp : ∀ i, (pairStep n edge k s).readSlot i = if i = 2 * k then s.readSlot k + s.readSlot k
        else if i = 2 * k + 1 then s.readSlot k + (if k = n - 1 then edge else s.readSlot (k + 1))
        else s.readSlot i := by
      intro i
      unfold pairStep wrapAdd
      rw [State.readSlot_writeSlot, State.readSlot_writeSlot]
    by_cases h : j < 2 * k
    · have e : ∀ i, i < 2 * k → (pairStep n edge k s).readSlot i = s.readSlot i := by
        intro i hi
        rw [hp, if_neg (by omega), if_neg (by omega)]
      rw [if_pos h, e _ (by omega), e _ (by omega)]
      exact (if_pos (by omega)).symm
    · rw [if_neg h, hp]
      by_cases h3 : j = 2 * k
      · subst h3
        rw [if_pos rfl, if_pos (by omega), if_pos (by omega), show 2 * k / 2 = k by omega]
      · rw [if_neg h3]
        by_cases h4 : j = 2 * k + 1
        · subst h4
          rw [if_pos rfl, show (2 * k + 1) / 2 = k by omega, if_pos (show 2 * k + 1 < 2 * (k + 1) by omega),
            if_neg (show ¬(2 * k + 1) % 2 = 0 by omega)]
        · rw [if_neg h4, if_neg (by omega)]

/-- The stages write below the final span. -/
theorem runStages_slots_above (k l n : Nat) (s : State) (j : Nat) (h : 2 ^ k * n ≤ j) :
    (runStages k l n s).readSlot j = s.readSlot j := by
  induction k generalizing l n s with
  | zero => rfl
  | succ k ih =>
    have hp : 2 ^ (k + 1) * n = 2 ^ k * (2 * n) := by rw [pow_succ, mul_assoc]
    have h2 : 2 * n ≤ 2 ^ k * (2 * n) := Nat.le_mul_of_pos_left _ (Nat.two_pow_pos k)
    rw [runStages, ih _ _ _ (by omega), runStage_slots _ _ _ (le_refl n), if_neg (by omega)]
    rfl

/-- DecodeData over `S` coefficients writes below `2^LEVELS * S`. -/
theorem decodeData_slots_above (S : Nat) (s : State) (j : Nat) (h : 2 ^ s.levels.toNat * S ≤ j) :
    (decodeData S s).readSlot j = s.readSlot j := runStages_slots_above _ _ _ _ _ h

/-- Refill writes below the block size. -/
theorem refill_slots (s : State) (j : Nat) (h : s.blockSize ≤ j) : (refill s).2.readSlot j = s.readSlot j := by
  have hs := getOneBlock_slots s j (le_trans (Nat.le_mul_of_pos_left _ (Nat.two_pow_pos _)) h)
  obtain ⟨p, b, c, x, l, m, f, k, hf⟩ := getOneBlock_frame s
  unfold refill
  rcases hg : getOneBlock s with ⟨_ | _, s'⟩ <;> rw [hg] at hs hf <;> simp only at hs hf ⊢
  · exact hs
  · have hl : s'.levels = s.levels := by rw [hf]
    have hb : s'.subblocks = s.subblocks := by rw [hf]
    exact (decodeData_slots_above _ _ _ (by rw [hl, hb]; exact h)).trans hs

/-- READ's loop over `m + n` samples is the loop over `m`, and, unless that stops early, the loop over `n` more. -/
theorem readLoop_add (m n p : Nat) (s : State) : readLoop (m + n) p s =
    if (readLoop m p s).1 < p + m then readLoop m p s else readLoop n (p + m) (readLoop m p s).2 := by
  induction m generalizing p s with
  | zero => simp [readLoop]
  | succ m ih =>
    have key : ∀ v, readLoop (m + n) (p + 1) v =
        if (readLoop m (p + 1) v).1 < p + (m + 1) then readLoop m (p + 1) v
        else readLoop n (p + (m + 1)) (readLoop m (p + 1) v).2 := by
      intro v
      rw [ih, show p + 1 + m = p + (m + 1) by omega]
    rw [show m + 1 + n = (m + n) + 1 by omega, readLoop, readLoop]
    by_cases h0 : s.samplesReady = 0
    · rw [if_pos h0, if_pos h0]
      by_cases h1 : s.samplesLeft = 0
      · rw [if_pos h1, if_pos h1, if_pos (by simp)]
      · rw [if_neg h1, if_neg h1]
        rcases hr : refill s with ⟨_ | _, s'⟩ <;> simp only []
        · rw [if_pos (by simp)]
        · exact key _
    · rw [if_neg h0, if_neg h0]
      exact key _

end Sys2Proof.Machine
end

