-- ==== Sys2Proof/Laws/Decode.lean ====
section
/-! SUPPORT. The decoder's class by unsigned ranges, the well-formedness check's class by magnitude and ReadCode's branch
are one (spec/30_encoding.md R82, R88; spec/41_unpacker.md R116). -/

namespace Sys2Proof

/-- The magnitude of a code's value, from its unsigned field. -/
theorem codeMagnitude_eq {w : Nat} (u : BitVec w) :
    codeMagnitude u = if 2 * u.toNat < 2 ^ w then u.toNat else 2 ^ w - u.toNat := by
  unfold codeMagnitude
  have := u.isLt
  rw [BitVec.toInt_eq_toNat_cond]
  split
  · omega
  · have : ((2 ^ w : Nat) : Int) = (2 ^ w : Int) := by norm_cast
    omega

/-- The shrinking bound is no greater than the growing one. -/
theorem holdBound_le_growBound (w : Nat) : holdBound w ≤ growBound w := by
  unfold holdBound growBound
  split
  · exact Nat.zero_le _
  · exact Nat.pow_le_pow_right (by omega) (by omega)

/-- The class the decoder finds by ranges is the class whose magnitude condition the field meets. -/
theorem classOfField_iff {w : Nat} (u : BitVec w) (h2 : 2 ≤ w) :
    (classOfField w u.toNat = .rsv ↔ isReserved u = true) ∧ (classOfField w u.toNat = .grow ↔ growField u = true) ∧
    (classOfField w u.toNat = .hold ↔ holdField u = true) ∧
    (classOfField w u.toNat = .shrink ↔ shrinkField u = true) := by
  have hu := u.isLt
  have hm := codeMagnitude_eq u
  obtain ⟨k, rfl⟩ : ∃ k, w = k + 2 := ⟨w - 2, by omega⟩
  rcases k with _ | k
  · simp only [classOfField, growField, holdField, shrinkField, isReserved, growBound, holdBound] at *
    generalize codeMagnitude u = m at *
    generalize u.toNat = n at *
    simp at *
    rcases hm' : n with _ | _ | _ | _ | n <;> subst hm' <;> simp at hm ⊢ <;> subst hm <;> simp
    omega
  · simp only [classOfField, growField, holdField, shrinkField, isReserved, growBound, holdBound] at *
    generalize codeMagnitude u = m at *
    generalize u.toNat = n at *
    have e1 : 2 ^ (k + 1 + 2 - 1) = 4 * 2 ^ k := by rw [show k + 1 + 2 - 1 = k + 2 by omega, pow_add]; omega
    have e2 : 2 ^ (k + 1 + 2 - 2) = 2 * 2 ^ k := by rw [show k + 1 + 2 - 2 = k + 1 by omega, pow_add]; omega
    have e3 : 2 ^ (k + 1 + 2 - 3) = 2 ^ k := by rw [show k + 1 + 2 - 3 = k by omega]
    have e4 : 2 ^ (k + 1 + 2) = 8 * 2 ^ k := by rw [show k + 1 + 2 = k + 3 by omega, pow_add]; omega
    simp only [e1, e2, e3, e4] at hm hu ⊢
    clear e1 e2 e3 e4
    have hp : 0 < 2 ^ k := Nat.two_pow_pos k
    generalize 2 ^ k = p at *
    simp only [show ¬(k + 1 + 2 < 3) by omega, if_false, beq_iff_eq, Bool.and_eq_true, Bool.not_eq_true',
      beq_eq_false_iff_ne, decide_eq_true_eq]
    split at hm <;> subst hm <;> split_ifs <;> simp <;> omega

namespace Machine

/-- ReadCode's branch by magnitude is the decoder's class. -/
theorem classify_eq {w : Nat} (u : BitVec w) (s : State) (h2 : 2 ≤ w) :
    classify u s = match classOfField w u.toNat with
      | .rsv => rsvCode s
      | .grow => growCode u s
      | .shrink => shrinkCode u s
      | .hold => holdCode u s := by
  obtain ⟨hr, hg, hh, hs⟩ := classOfField_iff u h2
  have hb := holdBound_le_growBound w
  unfold classify
  rw [show (codeValue u).natAbs = codeMagnitude u from rfl]
  rcases hc : classOfField w u.toNat with _ | _ | _ | _
  · have h := hg.1 hc
    simp only [growField, isReserved, Bool.and_eq_true, Bool.not_eq_true', beq_eq_false_iff_ne, decide_eq_true_eq] at h
    rw [if_neg h.1]
    exact if_pos h.2
  · have h := hh.1 hc
    simp only [holdField, isReserved, Bool.and_eq_true, Bool.not_eq_true', beq_eq_false_iff_ne, decide_eq_true_eq] at h
    rw [if_neg h.1.1, if_neg (by have h' := h.2; unfold growBound at h'; omega), if_neg]
    intro hw
    have h' := h.1.2
    simp only [holdBound] at h'
    rw [if_neg (by omega)] at h'
    omega
  · have h := hs.1 hc
    simp only [shrinkField, isReserved, Bool.and_eq_true, Bool.not_eq_true', beq_eq_false_iff_ne,
      decide_eq_true_eq] at h
    have hm : codeMagnitude u < growBound w := by omega
    simp only [growBound] at hm
    rw [if_neg h.1, if_neg (by omega), if_pos]
    have h' := h.2
    simp only [holdBound] at h'
    split at h' <;> omega
  · have h := hr.1 hc
    simp only [isReserved, beq_iff_eq] at h
    rw [if_pos h]

end Machine

end Sys2Proof
end

