-- ==== Sys2Proof/Laws/PerInstr.lean ====
section
/-! SUPPORT. One lemma per constructor of Instr about its encoding: it lies where spec/30_encoding.md R75 and R80 say an
encoding lies. -/

namespace Sys2Proof.Laws

/-- R75: bits 31:8 of a command word are 0. R80: a code's width is 2 to 16 and its field fits the width. -/
def EncodingFits.Fits : Encoding → Prop
  | .command word => word.toNat < 256
  | .code w u => 2 ≤ w ∧ w ≤ 16 ∧ u < 2 ^ w
  | .endOfStream => True

/-- The family's statement about one instruction. -/
def EncodingFits.Statement (i : Instr) : Prop := EncodingFits.Fits (encode i)

/-- A field of a legal width fits it. -/
theorem EncodingFits.field_fits {w : Nat} (u : BitVec w) (h2 : 2 ≤ w) (h16 : w ≤ 16) :
    EncodingFits.Fits (.code w u.toNat) := ⟨h2, h16, u.isLt⟩

theorem EncodingFits.nop : EncodingFits.Statement .nop := by
  show _ < _
  decide
theorem EncodingFits.openStream : EncodingFits.Statement .openStream := by
  show _ < _
  decide
theorem EncodingFits.uinit : EncodingFits.Statement .uinit := by
  show _ < _
  decide
theorem EncodingFits.ureset : EncodingFits.Statement .ureset := by
  show _ < _
  decide
theorem EncodingFits.getblk : EncodingFits.Statement .getblk := by
  show _ < _
  decide
theorem EncodingFits.dinit : EncodingFits.Statement .dinit := by
  show _ < _
  decide
theorem EncodingFits.decode : EncodingFits.Statement .decode := by
  show _ < _
  decide
theorem EncodingFits.refill : EncodingFits.Statement .refill := by
  show _ < _
  decide
theorem EncodingFits.read : EncodingFits.Statement .read := by
  show _ < _
  decide
theorem EncodingFits.rewind : EncodingFits.Statement .rewind := by
  show _ < _
  decide
theorem EncodingFits.srst : EncodingFits.Statement .srst := by
  show _ < _
  decide
theorem EncodingFits.codeGrowW2 (u : BitVec 2) : EncodingFits.Statement (.codeGrowW2 u) :=
  EncodingFits.field_fits u (by decide) (by decide)
theorem EncodingFits.codeHoldW2 (u : BitVec 2) : EncodingFits.Statement (.codeHoldW2 u) :=
  EncodingFits.field_fits u (by decide) (by decide)
theorem EncodingFits.codeRsvW2 : EncodingFits.Statement .codeRsvW2 := by
  refine ⟨?_, ?_, ?_⟩ <;> decide
theorem EncodingFits.codeGrowW3 (u : BitVec 3) : EncodingFits.Statement (.codeGrowW3 u) :=
  EncodingFits.field_fits u (by decide) (by decide)
theorem EncodingFits.codeHoldW3 (u : BitVec 3) : EncodingFits.Statement (.codeHoldW3 u) :=
  EncodingFits.field_fits u (by decide) (by decide)
theorem EncodingFits.codeShrinkW3 (u : BitVec 3) : EncodingFits.Statement (.codeShrinkW3 u) :=
  EncodingFits.field_fits u (by decide) (by decide)
theorem EncodingFits.codeRsvW3 : EncodingFits.Statement .codeRsvW3 := by
  refine ⟨?_, ?_, ?_⟩ <;> decide
theorem EncodingFits.codeGrowW4 (u : BitVec 4) : EncodingFits.Statement (.codeGrowW4 u) :=
  EncodingFits.field_fits u (by decide) (by decide)
theorem EncodingFits.codeHoldW4 (u : BitVec 4) : EncodingFits.Statement (.codeHoldW4 u) :=
  EncodingFits.field_fits u (by decide) (by decide)
theorem EncodingFits.codeShrinkW4 (u : BitVec 4) : EncodingFits.Statement (.codeShrinkW4 u) :=
  EncodingFits.field_fits u (by decide) (by decide)
theorem EncodingFits.codeRsvW4 : EncodingFits.Statement .codeRsvW4 := by
  refine ⟨?_, ?_, ?_⟩ <;> decide
theorem EncodingFits.codeGrowW5 (u : BitVec 5) : EncodingFits.Statement (.codeGrowW5 u) :=
  EncodingFits.field_fits u (by decide) (by decide)
theorem EncodingFits.codeHoldW5 (u : BitVec 5) : EncodingFits.Statement (.codeHoldW5 u) :=
  EncodingFits.field_fits u (by decide) (by decide)
theorem EncodingFits.codeShrinkW5 (u : BitVec 5) : EncodingFits.Statement (.codeShrinkW5 u) :=
  EncodingFits.field_fits u (by decide) (by decide)
theorem EncodingFits.codeRsvW5 : EncodingFits.Statement .codeRsvW5 := by
  refine ⟨?_, ?_, ?_⟩ <;> decide
theorem EncodingFits.codeGrowW6 (u : BitVec 6) : EncodingFits.Statement (.codeGrowW6 u) :=
  EncodingFits.field_fits u (by decide) (by decide)
theorem EncodingFits.codeHoldW6 (u : BitVec 6) : EncodingFits.Statement (.codeHoldW6 u) :=
  EncodingFits.field_fits u (by decide) (by decide)
theorem EncodingFits.codeShrinkW6 (u : BitVec 6) : EncodingFits.Statement (.codeShrinkW6 u) :=
  EncodingFits.field_fits u (by decide) (by decide)
theorem EncodingFits.codeRsvW6 : EncodingFits.Statement .codeRsvW6 := by
  refine ⟨?_, ?_, ?_⟩ <;> decide
theorem EncodingFits.codeGrowW7 (u : BitVec 7) : EncodingFits.Statement (.codeGrowW7 u) :=
  EncodingFits.field_fits u (by decide) (by decide)
theorem EncodingFits.codeHoldW7 (u : BitVec 7) : EncodingFits.Statement (.codeHoldW7 u) :=
  EncodingFits.field_fits u (by decide) (by decide)
theorem EncodingFits.codeShrinkW7 (u : BitVec 7) : EncodingFits.Statement (.codeShrinkW7 u) :=
  EncodingFits.field_fits u (by decide) (by decide)
theorem EncodingFits.codeRsvW7 : EncodingFits.Statement .codeRsvW7 := by
  refine ⟨?_, ?_, ?_⟩ <;> decide
theorem EncodingFits.codeGrowW8 (u : BitVec 8) : EncodingFits.Statement (.codeGrowW8 u) :=
  EncodingFits.field_fits u (by decide) (by decide)
theorem EncodingFits.codeHoldW8 (u : BitVec 8) : EncodingFits.Statement (.codeHoldW8 u) :=
  EncodingFits.field_fits u (by decide) (by decide)
theorem EncodingFits.codeShrinkW8 (u : BitVec 8) : EncodingFits.Statement (.codeShrinkW8 u) :=
  EncodingFits.field_fits u (by decide) (by decide)
theorem EncodingFits.codeRsvW8 : EncodingFits.Statement .codeRsvW8 := by
  refine ⟨?_, ?_, ?_⟩ <;> decide
theorem EncodingFits.codeGrowW9 (u : BitVec 9) : EncodingFits.Statement (.codeGrowW9 u) :=
  EncodingFits.field_fits u (by decide) (by decide)
theorem EncodingFits.codeHoldW9 (u : BitVec 9) : EncodingFits.Statement (.codeHoldW9 u) :=
  EncodingFits.field_fits u (by decide) (by decide)
theorem EncodingFits.codeShrinkW9 (u : BitVec 9) : EncodingFits.Statement (.codeShrinkW9 u) :=
  EncodingFits.field_fits u (by decide) (by decide)
theorem EncodingFits.codeRsvW9 : EncodingFits.Statement .codeRsvW9 := by
  refine ⟨?_, ?_, ?_⟩ <;> decide
theorem EncodingFits.codeGrowW10 (u : BitVec 10) : EncodingFits.Statement (.codeGrowW10 u) :=
  EncodingFits.field_fits u (by decide) (by decide)
theorem EncodingFits.codeHoldW10 (u : BitVec 10) : EncodingFits.Statement (.codeHoldW10 u) :=
  EncodingFits.field_fits u (by decide) (by decide)
theorem EncodingFits.codeShrinkW10 (u : BitVec 10) : EncodingFits.Statement (.codeShrinkW10 u) :=
  EncodingFits.field_fits u (by decide) (by decide)
theorem EncodingFits.codeRsvW10 : EncodingFits.Statement .codeRsvW10 := by
  refine ⟨?_, ?_, ?_⟩ <;> decide
theorem EncodingFits.codeGrowW11 (u : BitVec 11) : EncodingFits.Statement (.codeGrowW11 u) :=
  EncodingFits.field_fits u (by decide) (by decide)
theorem EncodingFits.codeHoldW11 (u : BitVec 11) : EncodingFits.Statement (.codeHoldW11 u) :=
  EncodingFits.field_fits u (by decide) (by decide)
theorem EncodingFits.codeShrinkW11 (u : BitVec 11) : EncodingFits.Statement (.codeShrinkW11 u) :=
  EncodingFits.field_fits u (by decide) (by decide)
theorem EncodingFits.codeRsvW11 : EncodingFits.Statement .codeRsvW11 := by
  refine ⟨?_, ?_, ?_⟩ <;> decide
theorem EncodingFits.codeGrowW12 (u : BitVec 12) : EncodingFits.Statement (.codeGrowW12 u) :=
  EncodingFits.field_fits u (by decide) (by decide)
theorem EncodingFits.codeHoldW12 (u : BitVec 12) : EncodingFits.Statement (.codeHoldW12 u) :=
  EncodingFits.field_fits u (by decide) (by decide)
theorem EncodingFits.codeShrinkW12 (u : BitVec 12) : EncodingFits.Statement (.codeShrinkW12 u) :=
  EncodingFits.field_fits u (by decide) (by decide)
theorem EncodingFits.codeRsvW12 : EncodingFits.Statement .codeRsvW12 := by
  refine ⟨?_, ?_, ?_⟩ <;> decide
theorem EncodingFits.codeGrowW13 (u : BitVec 13) : EncodingFits.Statement (.codeGrowW13 u) :=
  EncodingFits.field_fits u (by decide) (by decide)
theorem EncodingFits.codeHoldW13 (u : BitVec 13) : EncodingFits.Statement (.codeHoldW13 u) :=
  EncodingFits.field_fits u (by decide) (by decide)
theorem EncodingFits.codeShrinkW13 (u : BitVec 13) : EncodingFits.Statement (.codeShrinkW13 u) :=
  EncodingFits.field_fits u (by decide) (by decide)
theorem EncodingFits.codeRsvW13 : EncodingFits.Statement .codeRsvW13 := by
  refine ⟨?_, ?_, ?_⟩ <;> decide
theorem EncodingFits.codeGrowW14 (u : BitVec 14) : EncodingFits.Statement (.codeGrowW14 u) :=
  EncodingFits.field_fits u (by decide) (by decide)
theorem EncodingFits.codeHoldW14 (u : BitVec 14) : EncodingFits.Statement (.codeHoldW14 u) :=
  EncodingFits.field_fits u (by decide) (by decide)
theorem EncodingFits.codeShrinkW14 (u : BitVec 14) : EncodingFits.Statement (.codeShrinkW14 u) :=
  EncodingFits.field_fits u (by decide) (by decide)
theorem EncodingFits.codeRsvW14 : EncodingFits.Statement .codeRsvW14 := by
  refine ⟨?_, ?_, ?_⟩ <;> decide
theorem EncodingFits.codeGrowW15 (u : BitVec 15) : EncodingFits.Statement (.codeGrowW15 u) :=
  EncodingFits.field_fits u (by decide) (by decide)
theorem EncodingFits.codeHoldW15 (u : BitVec 15) : EncodingFits.Statement (.codeHoldW15 u) :=
  EncodingFits.field_fits u (by decide) (by decide)
theorem EncodingFits.codeShrinkW15 (u : BitVec 15) : EncodingFits.Statement (.codeShrinkW15 u) :=
  EncodingFits.field_fits u (by decide) (by decide)
theorem EncodingFits.codeRsvW15 : EncodingFits.Statement .codeRsvW15 := by
  refine ⟨?_, ?_, ?_⟩ <;> decide
theorem EncodingFits.codeGrowW16 (u : BitVec 16) : EncodingFits.Statement (.codeGrowW16 u) :=
  EncodingFits.field_fits u (by decide) (by decide)
theorem EncodingFits.codeHoldW16 (u : BitVec 16) : EncodingFits.Statement (.codeHoldW16 u) :=
  EncodingFits.field_fits u (by decide) (by decide)
theorem EncodingFits.codeShrinkW16 (u : BitVec 16) : EncodingFits.Statement (.codeShrinkW16 u) :=
  EncodingFits.field_fits u (by decide) (by decide)
theorem EncodingFits.codeRsvW16 : EncodingFits.Statement .codeRsvW16 := by
  refine ⟨?_, ?_, ?_⟩ <;> decide
theorem EncodingFits.codeEos : EncodingFits.Statement .codeEos := trivial

end Sys2Proof.Laws
end

