-- ==== Sys2Proof/Laws/Step.lean ====
section
/-! SUPPORT. One lemma per operation of the step and of the operands: what a step with a host action does, what a command's
start notes, which offsets name no register, what RE's geometry check and a typed read say. -/

namespace Sys2Proof.Machine

/-- With no code wanted, a step performs the next host action. -/
theorem step_host {s : State} {a : HostAction} {rest : List HostAction} (h : s.port ≠ .wanted)
    (ha : s.actions = a :: rest) : step s = perform a (s.popAction rest) := by
  unfold step
  split <;> simp_all [stepHost]

/-- What the start of a command notes. -/
theorem State.markLive_eq (s : State) :
    s.markLive = { s with session := if s.session = .changed then .changed else .live } := by
  unfold State.markLive
  rcases hs : s.session <;> simp

/-- A reserved offset names no register. -/
theorem regAt_reserved (offset : Nat) (h1 : offset % 4 = 0) (h2 : 0x54 ≤ offset ∧ offset ≤ 0x7C ∨ 0x100 ≤ offset) :
    regAt offset = none := by
  have h : ∀ n, n < 0x54 → offset ≠ n := by omega
  rw [regAt.eq_22]
  · rw [if_neg (by omega), dif_neg (by omega), dif_neg (by omega)]
  all_goals exact fun e => absurd e (h _ (by decide))

/-- What RE's geometry check says. -/
theorem State.dGeomOK_iff (s : State) : s.dGeomOK = true ↔
    1 ≤ s.levels.toNat ∧ s.levels.toNat ≤ 16 ∧ 1 ≤ s.subblocks.toNat ∧
      2 ^ s.levels.toNat * s.subblocks.toNat ≤ 983040 := by
  unfold State.dGeomOK State.blockSize
  rw [Bool.and_eq_true, Bool.and_eq_true, Bool.and_eq_true, decide_eq_true_iff, decide_eq_true_iff,
    decide_eq_true_iff, decide_eq_true_iff]
  tauto

/-- A read inside the stream has a value, and only such a read has one. -/
theorem State.memRead_isSome (s : State) (a n : Nat) : (s.memRead a n).isSome = true ↔ a + n ≤ s.size := by
  unfold State.memRead
  split <;> simp_all

/-- A typed read inside the stream answers its value and moves POS. -/
theorem State.typedRead_ok (s : State) (n v : Nat) (p : Word) (h : s.memRead p.toNat n = some v) :
    ({ s with pos := p } : State).typedRead n = .ok (v, { s with pos := p + BitVec.ofNat 32 n }) := by
  have h' : ({ s with pos := p } : State).memRead p.toNat n = some v := h
  unfold State.typedRead
  simp only []
  rw [h']

end Sys2Proof.Machine
end

