-- ==== Sys2Proof/Tests/Slice0.lean ====
section
/-! SUPPORT. The session's own tests: refusals of ill-formed terms, words decoded, one step at a time on small states with
results from spec/95_test_vectors.md and the rules' examples, and for every statement with hypotheses a state that meets
them. -/

namespace Sys2Proof.Tests

-- One theorem at a time: the checkers' memory limit counts the stack of every thread that concurrent checks would start.
set_option Elab.async false

open Sys2Proof.Machine Sys2Proof.Safety Sys2Proof.Claims

/-! ## Well-formedness refuses ill-formed terms -/

theorem test_wf_refuses_reserved_field_as_grow : (Instr.codeGrowW4 0b1000).wf = false := by decide
theorem test_wf_refuses_small_grow : (Instr.codeGrowW4 0b0011).wf = false := by decide
theorem test_wf_refuses_large_hold : (Instr.codeHoldW4 0b0100).wf = false := by decide
theorem test_wf_refuses_small_hold : (Instr.codeHoldW4 0b1111).wf = false := by decide
theorem test_wf_refuses_reserved_field_as_hold : (Instr.codeHoldW2 0b10).wf = false := by decide
theorem test_wf_refuses_large_shrink : (Instr.codeShrinkW4 0b0010).wf = false := by decide
theorem test_wf_refuses_reserved_field_as_shrink : (Instr.codeShrinkW3 0b100).wf = false := by decide

/-! ## Decoding: every row by a word of its encoding (R76; the `u_ranges` of R82's table) -/

theorem test_decode_commands :
    decode (.command 0x00000000) = .ok .nop ∧
    decode (.command 0x00000001) = .ok .openStream ∧
    decode (.command 0x00000002) = .ok .uinit ∧
    decode (.command 0x00000003) = .ok .ureset ∧
    decode (.command 0x00000004) = .ok .getblk ∧
    decode (.command 0x00000005) = .ok .dinit ∧
    decode (.command 0x00000006) = .ok .decode ∧
    decode (.command 0x00000007) = .ok .refill ∧
    decode (.command 0x00000008) = .ok .read ∧
    decode (.command 0x00000009) = .ok .rewind ∧
    decode (.command 0x0000000F) = .ok .srst := by decide +kernel

theorem test_decode_refuses_reserved_commands :
    decode (.command 0x0000000A) = .error .illegalCommand ∧ decode (.command 0x0000000E) = .error .illegalCommand ∧
    decode (.command 0x00000010) = .error .illegalCommand ∧ decode (.command 0x00000101) = .error .illegalCommand ∧
    decode (.command 0x80000000) = .error .illegalCommand := by decide +kernel

theorem test_decode_refuses_no_code :
    decode (.code 1 0) = .error .widthOutOfRange ∧ decode (.code 17 0) = .error .widthOutOfRange ∧
    decode (.code 4 16) = .error .fieldTooWide := by decide +kernel

theorem test_decode_grow :
    decode (.code 2 0x1) = .ok (.codeGrowW2 0x1) ∧
    decode (.code 2 0x3) = .ok (.codeGrowW2 0x3) ∧
    decode (.code 3 0x2) = .ok (.codeGrowW3 0x2) ∧
    decode (.code 3 0x5) = .ok (.codeGrowW3 0x5) ∧
    decode (.code 4 0x4) = .ok (.codeGrowW4 0x4) ∧
    decode (.code 4 0x9) = .ok (.codeGrowW4 0x9) ∧
    decode (.code 5 0x8) = .ok (.codeGrowW5 0x8) ∧
    decode (.code 5 0x11) = .ok (.codeGrowW5 0x11) ∧
    decode (.code 6 0x10) = .ok (.codeGrowW6 0x10) ∧
    decode (.code 6 0x21) = .ok (.codeGrowW6 0x21) ∧
    decode (.code 7 0x20) = .ok (.codeGrowW7 0x20) ∧
    decode (.code 7 0x41) = .ok (.codeGrowW7 0x41) ∧
    decode (.code 8 0x40) = .ok (.codeGrowW8 0x40) ∧
    decode (.code 8 0x81) = .ok (.codeGrowW8 0x81) ∧
    decode (.code 9 0x80) = .ok (.codeGrowW9 0x80) ∧
    decode (.code 9 0x101) = .ok (.codeGrowW9 0x101) ∧
    decode (.code 10 0x100) = .ok (.codeGrowW10 0x100) ∧
    decode (.code 10 0x201) = .ok (.codeGrowW10 0x201) ∧
    decode (.code 11 0x200) = .ok (.codeGrowW11 0x200) ∧
    decode (.code 11 0x401) = .ok (.codeGrowW11 0x401) ∧
    decode (.code 12 0x400) = .ok (.codeGrowW12 0x400) ∧
    decode (.code 12 0x801) = .ok (.codeGrowW12 0x801) ∧
    decode (.code 13 0x800) = .ok (.codeGrowW13 0x800) ∧
    decode (.code 13 0x1001) = .ok (.codeGrowW13 0x1001) ∧
    decode (.code 14 0x1000) = .ok (.codeGrowW14 0x1000) ∧
    decode (.code 14 0x2001) = .ok (.codeGrowW14 0x2001) ∧
    decode (.code 15 0x2000) = .ok (.codeGrowW15 0x2000) ∧
    decode (.code 15 0x4001) = .ok (.codeGrowW15 0x4001) ∧
    decode (.code 16 0x4000) = .ok (.codeGrowW16 0x4000) ∧
    decode (.code 16 0x8001) = .ok (.codeGrowW16 0x8001) := by decide +kernel

theorem test_decode_hold :
    decode (.code 2 0x0) = .ok (.codeHoldW2 0x0) ∧
    decode (.code 3 0x1) = .ok (.codeHoldW3 0x1) ∧
    decode (.code 3 0x7) = .ok (.codeHoldW3 0x7) ∧
    decode (.code 4 0x2) = .ok (.codeHoldW4 0x2) ∧
    decode (.code 4 0xD) = .ok (.codeHoldW4 0xD) ∧
    decode (.code 5 0x4) = .ok (.codeHoldW5 0x4) ∧
    decode (.code 5 0x19) = .ok (.codeHoldW5 0x19) ∧
    decode (.code 6 0x8) = .ok (.codeHoldW6 0x8) ∧
    decode (.code 6 0x31) = .ok (.codeHoldW6 0x31) ∧
    decode (.code 7 0x10) = .ok (.codeHoldW7 0x10) ∧
    decode (.code 7 0x61) = .ok (.codeHoldW7 0x61) ∧
    decode (.code 8 0x20) = .ok (.codeHoldW8 0x20) ∧
    decode (.code 8 0xC1) = .ok (.codeHoldW8 0xC1) ∧
    decode (.code 9 0x40) = .ok (.codeHoldW9 0x40) ∧
    decode (.code 9 0x181) = .ok (.codeHoldW9 0x181) ∧
    decode (.code 10 0x80) = .ok (.codeHoldW10 0x80) ∧
    decode (.code 10 0x301) = .ok (.codeHoldW10 0x301) ∧
    decode (.code 11 0x100) = .ok (.codeHoldW11 0x100) ∧
    decode (.code 11 0x601) = .ok (.codeHoldW11 0x601) ∧
    decode (.code 12 0x200) = .ok (.codeHoldW12 0x200) ∧
    decode (.code 12 0xC01) = .ok (.codeHoldW12 0xC01) ∧
    decode (.code 13 0x400) = .ok (.codeHoldW13 0x400) ∧
    decode (.code 13 0x1801) = .ok (.codeHoldW13 0x1801) ∧
    decode (.code 14 0x800) = .ok (.codeHoldW14 0x800) ∧
    decode (.code 14 0x3001) = .ok (.codeHoldW14 0x3001) ∧
    decode (.code 15 0x1000) = .ok (.codeHoldW15 0x1000) ∧
    decode (.code 15 0x6001) = .ok (.codeHoldW15 0x6001) ∧
    decode (.code 16 0x2000) = .ok (.codeHoldW16 0x2000) ∧
    decode (.code 16 0xC001) = .ok (.codeHoldW16 0xC001) := by decide +kernel

theorem test_decode_shrink :
    decode (.code 3 0x0) = .ok (.codeShrinkW3 0x0) ∧
    decode (.code 4 0x0) = .ok (.codeShrinkW4 0x0) ∧
    decode (.code 4 0xF) = .ok (.codeShrinkW4 0xF) ∧
    decode (.code 5 0x0) = .ok (.codeShrinkW5 0x0) ∧
    decode (.code 5 0x1D) = .ok (.codeShrinkW5 0x1D) ∧
    decode (.code 6 0x0) = .ok (.codeShrinkW6 0x0) ∧
    decode (.code 6 0x39) = .ok (.codeShrinkW6 0x39) ∧
    decode (.code 7 0x0) = .ok (.codeShrinkW7 0x0) ∧
    decode (.code 7 0x71) = .ok (.codeShrinkW7 0x71) ∧
    decode (.code 8 0x0) = .ok (.codeShrinkW8 0x0) ∧
    decode (.code 8 0xE1) = .ok (.codeShrinkW8 0xE1) ∧
    decode (.code 9 0x0) = .ok (.codeShrinkW9 0x0) ∧
    decode (.code 9 0x1C1) = .ok (.codeShrinkW9 0x1C1) ∧
    decode (.code 10 0x0) = .ok (.codeShrinkW10 0x0) ∧
    decode (.code 10 0x381) = .ok (.codeShrinkW10 0x381) ∧
    decode (.code 11 0x0) = .ok (.codeShrinkW11 0x0) ∧
    decode (.code 11 0x701) = .ok (.codeShrinkW11 0x701) ∧
    decode (.code 12 0x0) = .ok (.codeShrinkW12 0x0) ∧
    decode (.code 12 0xE01) = .ok (.codeShrinkW12 0xE01) ∧
    decode (.code 13 0x0) = .ok (.codeShrinkW13 0x0) ∧
    decode (.code 13 0x1C01) = .ok (.codeShrinkW13 0x1C01) ∧
    decode (.code 14 0x0) = .ok (.codeShrinkW14 0x0) ∧
    decode (.code 14 0x3801) = .ok (.codeShrinkW14 0x3801) ∧
    decode (.code 15 0x0) = .ok (.codeShrinkW15 0x0) ∧
    decode (.code 15 0x7001) = .ok (.codeShrinkW15 0x7001) ∧
    decode (.code 16 0x0) = .ok (.codeShrinkW16 0x0) ∧
    decode (.code 16 0xE001) = .ok (.codeShrinkW16 0xE001) := by decide +kernel

theorem test_decode_rsv :
    decode (.code 2 0x2) = .ok .codeRsvW2 ∧
    decode (.code 3 0x4) = .ok .codeRsvW3 ∧
    decode (.code 4 0x8) = .ok .codeRsvW4 ∧
    decode (.code 5 0x10) = .ok .codeRsvW5 ∧
    decode (.code 6 0x20) = .ok .codeRsvW6 ∧
    decode (.code 7 0x40) = .ok .codeRsvW7 ∧
    decode (.code 8 0x80) = .ok .codeRsvW8 ∧
    decode (.code 9 0x100) = .ok .codeRsvW9 ∧
    decode (.code 10 0x200) = .ok .codeRsvW10 ∧
    decode (.code 11 0x400) = .ok .codeRsvW11 ∧
    decode (.code 12 0x800) = .ok .codeRsvW12 ∧
    decode (.code 13 0x1000) = .ok .codeRsvW13 ∧
    decode (.code 14 0x2000) = .ok .codeRsvW14 ∧
    decode (.code 15 0x4000) = .ok .codeRsvW15 ∧
    decode (.code 16 0x8000) = .ok .codeRsvW16 := by decide +kernel

theorem test_decode_eos : decode .endOfStream = .ok .codeEos := rfl

/-- Rows with a fixed pattern are what their bits decode to, by the numbering of spec/opcode_table.json. -/
theorem test_table_words :
    decodeTableWord 32 1 = some .openStream ∧ decodeTableWord 32 10 = none ∧ decodeTableWord 8 2 = some .codeRsvW2 ∧
    decodeTableWord 8 0x80 = some .codeRsvW8 ∧ decodeTableWord 16 0x8000 = some .codeRsvW16 ∧
    decodeTableWord 8 0 = some (.codeHoldW2 0) ∧ decodeTableWord 16 0 = some (.codeShrinkW9 0) ∧
    decodeTableWord 0 0 = some .codeEos := by decide +kernel

/-! ## Small states -/

/-- The state an outcome leaves. -/
def after (r : Out) : State :=
  match r with
  | .next s => s
  | .fault _ => State.reset
  | .refused _ => State.reset

def bytes (l : List Nat) : List Byte := l.map (BitVec.ofNat 8)

/-- The stream of program P1 (spec/95_test_vectors.md). -/
def p1Stream : List Byte :=
  bytes [0x97, 0x28, 0x03, 0x01, 0x32, 0, 0, 0, 1, 0, 0x22, 0x56, 0x34, 0, 0xe3, 0x05, 0x19, 0xf4, 0x01]

/-- Fresh, with a stream attached. -/
def fresh (stream : List Byte) : State := { State.reset with stream := stream }

/-- BU and RE initialised at unit level for a geometry, over a stream that is all payload. -/
def ready (L S : Nat) (stream : List Byte) : State :=
  { State.reset with
    status := { Status.reset with uok := true, dok := true }
    levels := BitVec.ofNat 12 L
    subblocks := BitVec.ofNat 4 S
    ctx := freshContext L
    stream := stream
    session := .live }

/-- The state after OPEN of P1's stream. -/
def opened : State :=
  { ready 3 4 p1Stream with
    status := { Status.reset with opened := true, uok := true, dok := true }
    samples := 50
    channels := 1
    rate := 22050
    samplesLeft := 50
    pos := 14 }

/-- A state whose next host action is a write. -/
def writing (s : State) (offset width : Nat) (v : Word) : State := { s with actions := [.write offset width v] }

/-- The FAULT state after a bad signature. -/
def faulted : State := State.reset.raise .format

/-! ## Commands -/

theorem test_open_o1 : after (exec .openStream (fresh p1Stream)) = { opened with session := .fresh, result := 1 } := by
  decide +kernel

theorem test_open_o2_bad_signature :
    (after (exec .openStream (fresh (bytes [0x97, 0x28, 3, 2, 0x32, 0, 0, 0, 1, 0, 0x22, 0x56, 0x34, 0, 0xe3])))).status.word =
      0x00001140 := by decide +kernel

theorem test_uinit_fails_on_short_stream :
    (after (exec .uinit { ready 3 5 (bytes [0]) with result := 9 })).status.word = 0x00000004 ∧
    (after (exec .uinit { ready 3 5 (bytes [0]) with result := 9 })).result = 0 := by decide +kernel

/-- R112's example. -/
theorem test_uinit_example :
    (after (exec .uinit { fresh p1Stream with levels := 3, subblocks := 4, pos := 14 })).ctx.toList.take 4 =
      [4, 4, 4, 0] := by decide +kernel

/-- R114's example. -/
theorem test_ureset_example :
    let t := after (exec .ureset { opened with
      ctx := #v[3, 5, 4, 0, 0, 0, 0, 0, 0, 0, 0, 0, 0, 0, 0, 0], bitbuf := 0x7A, bitcnt := 7, pos := 18 })
    (t.ctx.toList.take 4, t.lvlptr, t.bitbuf, t.bitcnt, t.pos) = ([4, 4, 4, 0], 0, 0, 0, 18) := by decide +kernel

/-- R122's example. -/
theorem test_getblk_example :
    let t := after (exec .getblk opened)
    (t.buf, t.ctx.toList.take 3, t.lvlptr, t.pos, t.bitcnt, t.result) =
      ([(0, 3), (1, -2), (2, 5), (3, 0)], [3, 4, 5], 1, 16, 0, 1) := by decide +kernel

/-- Vector U-RSV. -/
theorem test_getblk_reserved_code :
    let t := after (exec .getblk (ready 1 1 (bytes [8, 0])))
    (t.status.word, t.pos, t.bitcnt, t.bitbuf, t.buf.length) = (0x2E, 1, 4, 0, 0) := by decide +kernel

theorem test_dinit_refuses_17_levels :
    (after (exec .dinit (ready 17 1 []))).status.word = 0x00000002 := by decide +kernel

/-- R132's edge: 16 levels of 15 subblocks fill the buffer exactly. -/
theorem test_dinit_largest_geometry : (after (exec .dinit (ready 16 15 []))).result = 1 := by decide +kernel

/-- Vector D3v. -/
theorem test_decode_d3v :
    let t := after (exec .decode { ready 2 3 [] with arg0 := 3, buf := [(0, 100), (1, -50), (2, 7)] })
    (t.buf.map (·.2.toInt), t.scr.toList.take 3) =
      ([400, 250, 100, -50, -200, -143, -86, -29, 28, 28, 28, 28], [7, 14, 0]) := by decide +kernel

/-- Vector D6v: wrap-around. -/
theorem test_decode_d6v_wraps :
    (after (exec .decode { ready 1 2 [] with arg0 := 2, buf := [(0, 0x7FFFFFFF), (1, 1)] })).buf =
      [(0, 0xFFFFFFFE), (1, 0x80000000), (2, 2), (3, 2)] := by decide +kernel

/-- R152's example. -/
theorem test_refill_example :
    let t := after (exec .refill opened)
    (t.result, t.samplesReady, t.samplesLeft, t.rdptr, (t.buf.take 4).map (·.2.toInt)) =
      (1, 32, 18, 0, [24, 19, 14, 9]) := by decide +kernel

/-- R153's example. -/
theorem test_read_example :
    let t := after (exec .read { opened with arg0 := 5 })
    (t.result, t.out.map (·.2.toInt), t.samplesReady, t.samplesLeft, t.rdptr) =
      (5, [3, 2, 1, 1, 0], 27, 18, 5) := by decide +kernel

/-- Output indices wrap modulo 2^32 (R59). -/
theorem test_read_wraps_output_index :
    (after (exec .read { opened with arg0 := 2, arg1 := 0xFFFFFFFF })).out = [(0, 2), (0xFFFFFFFF, 3)] := by
  decide +kernel

/-- R156's example. -/
theorem test_rewind_example :
    let t := after (exec .rewind { opened with pos := 19, bitcnt := 7, lvlptr := 2, samplesLeft := 0, rdptr := 18 })
    (t.pos, t.bitcnt, t.lvlptr, t.samplesLeft, t.rdptr) = (14, 0, 0, 50, 0) := by decide +kernel

theorem test_nop_in_fault : exec .nop faulted = .next faulted := rfl

theorem test_srst_leaves_fault :
    (after (exec .srst { faulted with arg0 := 1 })).status.word = 0 ∧
    (after (exec .srst { faulted with arg0 := 1 })).arg0 = 0 := by decide +kernel

/-! ## Codes (vectors of section 2.2) -/

/-- BU with one level at a width. -/
def atWidth (w : Nat) : State := { ready 1 1 [] with ctx := (freshContext 1).set 0 (BitVec.ofNat 5 w) }

/-- What a code answers, and the level's next width. -/
def codeOutcome (r : Out) : CodePort × Nat := ((after r).port, (after r).ctxWidth 0)

theorem test_grow_codes :
    codeOutcome (exec (.codeGrowW4 0x9) (atWidth 4)) = (.returned (.ok (-7)), 5) ∧
    codeOutcome (exec (.codeGrowW16 0x7FFF) (atWidth 16)) = (.returned (.ok 32767), 16) ∧
    codeOutcome (exec (.codeGrowW2 3) (atWidth 2)) = (.returned (.ok (-1)), 3) := by decide +kernel

theorem test_hold_codes :
    codeOutcome (exec (.codeHoldW4 0xE) (atWidth 4)) = (.returned (.ok (-2)), 4) ∧
    codeOutcome (exec (.codeHoldW2 0) (atWidth 2)) = (.returned (.ok 0), 2) ∧
    codeOutcome (exec (.codeHoldW3 7) (atWidth 3)) = (.returned (.ok (-1)), 3) := by decide +kernel

theorem test_shrink_codes :
    codeOutcome (exec (.codeShrinkW4 0) (atWidth 4)) = (.returned (.ok 0), 3) ∧
    codeOutcome (exec (.codeShrinkW5 0x1F) (atWidth 5)) = (.returned (.ok (-1)), 4) ∧
    codeOutcome (exec (.codeShrinkW3 0) (atWidth 3)) = (.returned (.ok 0), 2) := by decide +kernel

theorem test_failing_codes :
    codeOutcome (exec .codeRsvW4 (atWidth 4)) = (.returned .rsv, 4) ∧
    codeOutcome (exec .codeEos (atWidth 4)) = (.returned .eos, 4) := by decide +kernel

/-- The level pointer moves from the last level back to the first (R34). -/
theorem test_level_pointer_wraps :
    (after (exec (.codeHoldW4 3) { opened with lvlptr := 2 })).lvlptr = 0 := by decide +kernel

/-- Table words placed where step fetches run as the first instruction after reset. -/
theorem test_fetch_words_run :
    step (State.reset.withFetchWord 32 0) = .next { State.reset with session := .live } ∧
    (after (step (State.reset.withFetchWord 8 0x80))).port = .returned .rsv ∧
    (after (step (State.reset.withFetchWord 16 0x4001))).port = .returned (.ok (-16383)) ∧
    (after (step (State.reset.withFetchWord 0 0))).port = .returned .eos := by
  refine ⟨rfl, ?_⟩
  decide +kernel

/-! ## Registers, refusals, emission -/

/-- Vectors V-REF and P6. -/
theorem test_refusals :
    (after (step (writing State.reset 0 32 0x0A))).status.word = 0x400 ∧
    (after (step (writing State.reset 0 32 0x101))).status.word = 0x400 ∧
    (after (exec .read State.reset)).status.word = 0x500 ∧
    (after (exec .decode State.reset)).status.word = 0x500 ∧
    (after (step (writing faulted 0 32 0x0C))).status.word = 0x1440 ∧
    (after (exec .rewind faulted)).status.word = 0x1740 := by decide +kernel

/-- Vector V-REG. -/
theorem test_register_writes :
    (after (step (writing State.reset 0x4C 32 0xFFF00005))).bufidx = 5 ∧
    (after (step (writing State.reset 0x24 32 0x1F))).subblocks = 15 ∧
    (after (step (writing State.reset 0x20 32 0x1003))).levels = 3 ∧
    (after (step (writing opened 0x20 32 5))).levels = 3 ∧
    (after (step (writing { State.reset with bufidx := 3 } 0x50 32 0xFFFFFFFF))).buf = [(3, -1)] := by decide +kernel

/-- R172's example, with reserved and malformed accesses. -/
theorem test_register_reads :
    opened.readReg 0x04 32 = 7 ∧ opened.readReg 0x28 32 = 32 ∧ opened.readReg 0x1C 32 = 22050 ∧
    opened.readReg 0x3C 32 = 19 ∧ opened.readReg 0x88 32 = 4 ∧ opened.readReg 0x54 32 = 0 ∧
    opened.readReg 0x14 16 = 0 ∧ opened.readReg 0x15 32 = 0 := by decide +kernel

/-- The rows of section 2.5. -/
theorem test_emit :
    emit 3 24 = 3 ∧ emit 3 (-1) = -1 ∧ emit 3 (-9) = -2 ∧ emit 1 0x00030000 = -32768 ∧ emit 1 0x7FFFFFFF = -1 ∧
    emit 16 0x80000000 = -32768 ∧ emit 4 0x12345678 = 17767 ∧ emit 2 0x0003FFFC = -1 ∧
    emit 1 0xFFFEFFFE = 32767 := by decide +kernel

/-- A stream changed under a live instance stops a command, but not SRST. -/
theorem test_changed_stream :
    step { opened with session := .changed, actions := [.write 0 32 8] } = .refused .streamChangedWhileLive ∧
    (after (step { opened with session := .changed, actions := [.write 0 32 15] })).session = .fresh ∧
    (after (step { State.reset with actions := [.attach [1]] })).session = .fresh := by
  refine ⟨rfl, ?_⟩
  decide +kernel

/-! ## For every statement with hypotheses, a state and operands that meet them -/

/-- A host action next, in a state that runs host actions. -/
def acting (a : HostAction) : State := { opened with actions := [a] }

/-- The hypotheses on the port and the action hold of `acting`, for every action. -/
theorem acting_next (a : HostAction) : (acting a).port ≠ .wanted ∧ (acting a).actions = a :: [] :=
  ⟨CodePort.noConfusion, rfl⟩

theorem witness_EncodeThenDecode : (Instr.codeGrowW4 5).wf = true ∧ Instr.srst.wf = true := by decide +kernel

theorem witness_DecodeThenEncode :
    decode (.code 2 0) = .ok (.codeHoldW2 0) ∧ decode (.code 16 0xFFFF) = .ok (.codeShrinkW16 0xFFFF) := by decide +kernel

/-- Boundary words of both clauses: 0x0A, 0x0E, 0x10 and 0x100 are illegal, 0x09 and 0x0F are not. -/
theorem witness_IllegalWordsAreRefused :
    ((0x0A : Word).toNat / 256 = 0 ∧ (0x0A : Word).toNat % 256 = 0x0A) ∧ (0x0E : Word).toNat % 256 = 0x0E ∧
    (0x10 : Word).toNat % 256 = 0x10 ∧ (0x100 : Word).toNat / 256 = 1 ∧ (0xFFFFFFFF : Word).toNat / 256 = 0xFFFFFF ∧
    ((0x09 : Word).toNat / 256 = 0 ∧ (0x09 : Word).toNat % 256 = 0x09) ∧
    ((0x0F : Word).toNat / 256 = 0 ∧ (0x0F : Word).toNat % 256 = 0x0F) ∧
    (acting (.write 0 32 0x0A)).port ≠ .wanted ∧ (acting (.write 0 32 0x0A)).actions = .write 0 32 0x0A :: [] := by
  decide +kernel

theorem witness_CodeClassesPartition : (2 ≤ 2 ∧ 2 ≤ 16) ∧ (2 ≤ 16 ∧ 16 ≤ 16) := by decide +kernel

theorem witness_DecodedRowIsReadCodesBranch : (2 ≤ 4 ∧ 4 ≤ 16) ∧ opened.contextLegal = true := by decide +kernel

theorem witness_HeaderFieldsFromBytes :
    p1Stream = List.ofFn (fun i : Fin 14 => (p1Stream[i.val]?).getD 0) ++ bytes [0xe3, 0x05, 0x19, 0xf4, 0x01] := by
  decide +kernel

theorem witness_StepRunsDecodedCommand :
    ((acting (.write 0 32 1)).port ≠ .wanted ∧ decode (.command 1) = .ok .openStream ∧
      (acting (.write 0 32 1)).session ≠ .changed) ∧
    (decode (.command 15) = .ok .srst ∧
      ({ acting (.write 0 32 15) with session := .changed } : State).session = .changed) := by decide +kernel

theorem witness_StepRunsDecodedCode :
    ({ opened with port := .wanted } : State).port = .wanted ∧
    ({ opened with port := .wanted } : State).contextLegal = true := by decide +kernel

theorem witness_StepWithoutActionWaits : opened.port ≠ .wanted ∧ opened.actions = [] := by decide +kernel

theorem witness_HostReadHasNoSideEffect :
    (acting (.read 4 32)).port ≠ .wanted ∧ (acting (.read 4 32)).actions = [.read 4 32] := by decide +kernel

/-- Each clause: the stored registers, the window inside and at its end, the read-only registers at both ends. -/
theorem witness_HostWritesOperandsAndWindow :
    (∀ offset ∈ [0x08, 0x0C, 0x4C, 0x50, 0x04, 0x48, 0x80, 0xFC],
      (acting (.write offset 32 7)).actions = [.write offset 32 7] ∧ (acting (.write offset 32 7)).port ≠ .wanted) ∧
    ({ acting (.write 0x50 32 7) with bufidx := 983039 } : State).bufidx.toNat < 983040 ∧
    983040 ≤ ({ acting (.write 0x50 32 7) with bufidx := 983040 } : State).bufidx.toNat := by decide +kernel

/-- Both branches: performed while neither open nor faulted, ignored while open. -/
theorem witness_GeometryWritesAreGated :
    (acting (.write 0x20 32 5)).port ≠ .wanted ∧ (acting (.write 0x24 32 5)).actions = [.write 0x24 32 5] ∧
    opened.status.opened = true ∧ (writing State.reset 0x20 32 5).status.opened = false ∧
    (writing State.reset 0x20 32 5).status.fault = false ∧ faulted.status.fault = true := by decide +kernel

theorem witness_ReservedOffsetsHoldNothing :
    ∀ offset ∈ [0x54, 0x7C, 0x100], offset % 4 = 0 ∧ (0x54 ≤ offset ∧ offset ≤ 0x7C ∨ 0x100 ≤ offset) ∧
      (acting (.write offset 32 1)).port ≠ .wanted := by decide +kernel

theorem witness_MalformedAccessesAreNotPerformed :
    (16 ≠ 32 ∨ 0 % 4 ≠ 0) ∧ (32 ≠ 32 ∨ 1 % 4 ≠ 0) ∧ (acting (.write 0 16 1)).port ≠ .wanted := by decide +kernel

theorem witness_ResetLeavesResetValues :
    (acting .hardwareReset).port ≠ .wanted ∧ (acting .hardwareReset).actions = [.hardwareReset] := by decide +kernel

theorem witness_ResetsLeaveTheHostsSide :
    (acting .hardwareReset).port ≠ .wanted ∧ (acting .hardwareReset).actions = [.hardwareReset] := by decide +kernel

theorem witness_FaultStateRefusesCommands :
    IsCommand .read ∧ Instr.read ≠ .nop ∧ Instr.read ≠ .srst ∧ faulted.status.fault = true :=
  ⟨⟨8, rfl⟩, by decide +kernel, by decide +kernel, rfl⟩

/-- Each clause, DECODE's argument at both ends of its range: 0, and one past 15 * 2^16. -/
theorem witness_CommandPreconditions :
    opened.status.fault = false ∧ opened.status.opened = true ∧ State.reset.status.uok = false ∧
    State.reset.status.dok = false ∧ State.reset.status.opened = false ∧ State.reset.status.fault = false ∧
    (opened.status.dok = true ∧ opened.arg0 = 0) ∧
    ((ready 16 15 []).status.dok = true ∧
      983040 < ({ ready 16 15 [] with arg0 := 16 } : State).arg0.toNat * 2 ^ (ready 16 15 []).levels.toNat) ∧
    ({ opened with samplesReady := 1 } : State).samplesReady ≠ 0 ∧
    ({ opened with samplesLeft := 0 } : State).samplesLeft = 0 := by decide +kernel

theorem witness_ChangedStreamStopsCommands :
    let s : State := { acting (.write 0 32 8) with session := .changed }
    s.port ≠ .wanted ∧ s.actions = [.write 0 32 8] ∧ decode (.command 8) = .ok .read ∧ s.session = .changed ∧
      Instr.read ≠ .nop ∧ Instr.read ≠ .srst := by decide +kernel

/-- Both clauses: an attached stream of one byte, and lengths on both sides of SIZE's bound. -/
theorem witness_AttachReplacesTheStream :
    (acting (.attach [1])).port ≠ .wanted ∧ (acting (.attach [1])).actions = .attach [1] :: [] ∧
    (List.replicate (2 ^ 32 - 1) (0 : Byte)).length < 2 ^ 32 ∧
    2 ^ 32 ≤ (List.replicate (2 ^ 32) (0 : Byte)).length := by
  refine ⟨(acting_next _).1, rfl, ?_, ?_⟩
  · rw [List.length_replicate]; omega
  · rw [List.length_replicate]

/-- Each clause: a stream open and both units flagged ready over 17 levels. -/
theorem witness_ExcludedStatesStop :
    let s : State := { opened with levels := 17, arg0 := 7 }
    s.status.fault = false ∧ s.contextLegal = false ∧ ({ s with port := .wanted } : State).port = .wanted ∧
    (decode (.code 4 0x3) = .ok (.codeHoldW4 3) ∧ 0x3 ≠ 2 ^ (4 - 1)) ∧
    s.status.uok = true ∧ s.status.ufail = false ∧ s.status.opened = true ∧ s.samplesLeft ≠ 0 ∧ s.samplesReady = 0 ∧
    s.samplesReady.toNat < s.arg0.toNat ∧ s.dGeomOK = false ∧ s.status.dok = true ∧ 1 ≤ s.arg0.toNat ∧
    s.arg0.toNat * 2 ^ s.levels.toNat ≤ 983040 := by
  dsimp only
  decide +kernel

/-- The opened stream with a READ of one sample about to be issued. -/
def reading : State := { opened with arg0 := 1, actions := [.write 0 32 8] }

theorem reading_open : OpenConsistent reading where
  noFault := rfl
  dok := rfl
  context := by decide +kernel
  geometry := by decide +kernel
  headerPresent := by decide +kernel
  conserved := by decide +kernel
  readyInBlock := by decide +kernel
  cursorInBlock := by decide +kernel

theorem reading_inv : Inv reading where
  bufForm := rfl
  bufBounds := rfl
  outForm := rfl
  outBounds := rfl
  sizeFits := by decide +kernel
  posInStream := by decide +kernel
  freshStart := by decide +kernel
  accumulator := by decide +kernel
  unpackerReady := by decide +kernel
  decoderReady := by decide +kernel
  openConsistent := fun _ => reading_open
  faultClean := fun h => absurd h (by decide +kernel)
  causeWithUfail := by decide +kernel
  portReady := fun h => absurd h (by decide +kernel)

/-- Whether an outcome is a next state. -/
def isNext : Out → Bool
  | .next _ => true
  | .fault _ => false
  | .refused _ => false

theorem next_of_isNext {r : Out} (h : isNext r = true) : ∃ t, r = .next t := by
  cases r with
  | next t => exact ⟨t, rfl⟩
  | fault f => simp [isNext] at h
  | refused f => simp [isNext] at h

theorem witness_StepKeepsTheInvariant : Inv reading ∧ ∃ t, step reading = .next t :=
  ⟨reading_inv, next_of_isNext (by decide +kernel)⟩

theorem witness_OpenKeepsUokUnlessUinit :
    OpenHasUok reading ∧ reading.status.opened = true ∧ (∀ rest, reading.actions ≠ .write 0 32 2 :: rest) ∧
    ∃ t, step reading = .next t :=
  ⟨fun _ => rfl, rfl, fun _ h => absurd h (by simp [reading]), next_of_isNext (by decide +kernel)⟩

theorem witness_NoStepStops : Inv reading ∧ reading.session ≠ .changed ∧
    ∀ b rest, reading.actions = .attach b :: rest → b.length < 2 ^ 32 :=
  ⟨reading_inv, by decide +kernel, fun _ _ h => absurd h (by simp [reading])⟩

/-- P1's header. -/
theorem p1_header : Header (fresh p1Stream) Config.MAGIC 50 1 22050 0x34 :=
  ⟨by decide +kernel, by decide +kernel, by decide +kernel, by decide +kernel, by decide +kernel⟩

theorem witness_OpenAcceptsGoodHeader :
    (fresh p1Stream).status.fault = false ∧ (fresh p1Stream).status.opened = false ∧ (fresh p1Stream).size < 2 ^ 32 ∧
    Header (fresh p1Stream) Config.MAGIC 50 1 22050 0x34 ∧ GoodGeometry (fresh p1Stream) 0x34 :=
  ⟨rfl, rfl, by decide +kernel, p1_header, by unfold GoodGeometry; decide +kernel⟩

/-- A stream with P1's signature and a geometry word. -/
def withGeometry (g : Nat) : State :=
  fresh (bytes [0x97, 0x28, 0x03, 0x01, 0, 0, 0, 0, 0, 0, 0, 0, g % 256, g / 256, 0xe3])

/-- Each clause: three bytes; a bad signature; the signature with 13 bytes; no levels, 17 levels, no subblocks, and the
vector O9's five subblocks on one byte. -/
theorem witness_OpenRaisesFatalErrors :
    (fresh (bytes [0x97, 0x28, 0x03])).size < 4 ∧
    (fresh (bytes [0x97, 0x28, 0x03, 0x02])).memRead 0 4 = some 0x02032897 ∧
    ((fresh (p1Stream.take 13)).memRead 0 4 = some Config.MAGIC ∧ (fresh (p1Stream.take 13)).size < 14) ∧
    (∀ g ∈ [0x0004, 0x0111, 0x0030, 0x0035], Header (withGeometry g) Config.MAGIC 0 0 0 g ∧
      ¬GoodGeometry (withGeometry g) g) := by
  refine ⟨by decide +kernel, by decide +kernel, by decide +kernel, ?_⟩
  intro g hg
  have h : ∀ g ∈ [0x0004, 0x0111, 0x0030, 0x0035],
      ((withGeometry g).memRead 0 4 = some Config.MAGIC ∧ (withGeometry g).memRead 4 4 = some 0 ∧
        (withGeometry g).memRead 8 2 = some 0 ∧ (withGeometry g).memRead 10 2 = some 0 ∧
        (withGeometry g).memRead 12 2 = some g) ∧
      ¬(1 ≤ g / 16 ∧ g / 16 ≤ 16 ∧ 1 ≤ g % 16 ∧ g % 16 * 2 ≤ 8 * ((withGeometry g).size - 14)) := by decide +kernel
  obtain ⟨⟨h1, h2, h3, h4, h5⟩, h6⟩ := h g hg
  exact ⟨⟨h1, h2, h3, h4, h5⟩, h6⟩

/-- Both clauses: P1's header, and a header of no levels. -/
theorem witness_HeaderRoundTrip :
    (Header (fresh p1Stream) Config.MAGIC 50 1 22050 0x34 ∧ GoodGeometry (fresh p1Stream) 0x34) ∧
    Header (withGeometry 4) Config.MAGIC 0 0 0 4 ∧ ¬GoodGeometry (withGeometry 4) 4 :=
  ⟨⟨p1_header, by unfold GoodGeometry; decide +kernel⟩,
    ⟨by decide +kernel, by decide +kernel, by decide +kernel, by decide +kernel, by decide +kernel⟩,
    by unfold GoodGeometry; decide +kernel⟩

/-- Each clause, at the length test's boundary: 8 bits hold four subblocks, not five. -/
theorem witness_UinitInitialisesOrFails :
    let s := ready 3 4 (bytes [0])
    let t := ready 3 5 (bytes [0])
    faulted.status.fault = true ∧ s.status.fault = false ∧ t.status.fault = false ∧
    (1 ≤ s.levels.toNat ∧ s.levels.toNat ≤ 16 ∧ 1 ≤ s.subblocks.toNat ∧
      s.subblocks.toNat ≤ 15 ∧ s.subblocks.toNat * 2 ≤ 8 * (s.size - s.pos.toNat)) ∧
    ¬(1 ≤ t.levels.toNat ∧ t.levels.toNat ≤ 16 ∧ 1 ≤ t.subblocks.toNat ∧
      t.subblocks.toNat ≤ 15 ∧ t.subblocks.toNat * 2 ≤ 8 * (t.size - t.pos.toNat)) := by
  dsimp only
  decide +kernel

theorem witness_UresetRestoresTheContext :
    faulted.status.fault = true ∧ (State.reset.status.fault = false ∧ State.reset.status.uok = false) ∧
    opened.status.fault = false ∧ opened.status.uok = true := by decide +kernel

theorem opened_cursor : CursorOK opened := ⟨by decide +kernel, by decide +kernel⟩

/-- Both clauses: 40 payload bits to come, and none. -/
theorem witness_FetchBitsTakesOldestBitsFirst :
    CursorOK opened ∧ 16 ≤ (pendingBits opened).length ∧
    CursorOK (ready 1 1 []) ∧ (pendingBits (ready 1 1 [])).length < 2 :=
  ⟨opened_cursor, by decide +kernel, ⟨by decide +kernel, by decide +kernel⟩, by decide +kernel⟩

theorem witness_ReadCodeStaysInBounds :
    opened.contextLegal = true ∧ CursorOK opened ∧ (readCode opened).1 = .ok 3 :=
  ⟨by decide +kernel, opened_cursor, by decide +kernel⟩

/-- Both outcomes: a whole block, and a reserved code at once. -/
theorem witness_GetblkExtractsABlock :
    (opened.status.fault = false ∧ opened.status.uok = true ∧ opened.status.ufail = false ∧
      opened.contextLegal = true ∧ (readCodes 4 opened).2.1 = none) ∧
    ((ready 1 1 (bytes [8])).contextLegal = true ∧
      (readCodes 1 (ready 1 1 (bytes [8]))).2.1 = some .reservedCode) := by decide +kernel

theorem witness_GetblkFailureIsSticky :
    let s := opened.failUnpacker .endOfStream
    s.status.fault = false ∧ s.status.uok = true ∧ s.status.ufail = true := by decide +kernel

theorem witness_GetblkCarriesTheLevelPointer :
    opened.status.fault = false ∧ opened.status.uok = true ∧ opened.status.ufail = false ∧
    opened.contextLegal = true ∧ (after (exec .getblk opened)).result = 1 := by decide +kernel

/-- Each clause, at the geometry's boundary: 16 levels and 17. -/
theorem witness_DinitInitialisesOrFails :
    let s := ready 16 15 []
    let t := ready 17 1 []
    faulted.status.fault = true ∧ s.status.fault = false ∧ t.status.fault = false ∧
    (1 ≤ s.levels.toNat ∧ s.levels.toNat ≤ 16 ∧ 1 ≤ s.subblocks.toNat ∧
      2 ^ s.levels.toNat * s.subblocks.toNat ≤ 983040) ∧
    ¬(1 ≤ t.levels.toNat ∧ t.levels.toNat ≤ 16 ∧ 1 ≤ t.subblocks.toNat ∧
      2 ^ t.levels.toNat * t.subblocks.toNat ≤ 983040) := by
  dsimp only
  decide +kernel

theorem witness_DecodeInterpolates :
    let s : State := { ready 2 3 [] with arg0 := 3, buf := [(0, 100), (1, -50), (2, 7)] }
    s.status.fault = false ∧ s.status.dok = true ∧ s.dGeomOK = true ∧ 1 ≤ s.arg0.toNat ∧
      s.arg0.toNat * 2 ^ s.levels.toNat ≤ 983040 := by
  dsimp only
  decide +kernel

theorem witness_NoOverflowOnUnpackedData :
    let s : State := { ready 2 3 [] with buf := [(0, 32767), (1, -32767), (2, 7)] }
    1 ≤ 3 ∧ s.levels.toNat ≤ 16 ∧ (∀ q, q < 3 → (s.readSlot q).toInt.natAbs ≤ 32767) ∧
      11 < 3 * 2 ^ s.levels.toNat := by
  dsimp only
  decide +kernel

theorem opened_readable : Readable opened := ⟨rfl, rfl, by decide +kernel⟩

theorem witness_RefillIsGetblkThenDecode :
    Readable opened ∧ opened.status.uok = true ∧ opened.status.dok = true ∧ opened.samplesReady = 0 ∧
    opened.samplesLeft ≠ 0 ∧ (after (exec .getblk opened)).result ≠ 0 ∧
    (after (exec .getblk (opened.failUnpacker .endOfStream))).result = 0 ∧ Readable (opened.setUok false) :=
  ⟨opened_readable, rfl, rfl, rfl, by decide +kernel, by decide +kernel, by decide +kernel, rfl, rfl, by decide +kernel⟩

/-- A READ whose REFILL succeeds, one whose REFILL fails, and one without UOK. -/
theorem witness_ReadIsRefillThenRead :
    let s : State := { opened with arg0 := 40 }
    Readable s ∧ s.samplesReady = 0 ∧ s.samplesLeft ≠ 0 ∧ s.arg0 ≠ 0 ∧ (after (exec .refill s)).result ≠ 0 ∧
    (Readable (s.failUnpacker .endOfStream) ∧ (after (exec .refill (s.failUnpacker .endOfStream))).result = 0) ∧
    Readable (s.setUok false) :=
  ⟨⟨rfl, rfl, by decide +kernel⟩, rfl, by decide +kernel, by decide +kernel, by decide +kernel,
    ⟨⟨rfl, rfl, by decide +kernel⟩, by decide +kernel⟩, ⟨rfl, rfl, by decide +kernel⟩⟩

/-- Each alternative: nothing asked for, nothing left, BU failed. -/
theorem witness_ReadOfNothingChangesNothing :
    opened.status.fault = false ∧ opened.status.opened = true ∧ opened.arg0 = 0 ∧
    (opened.samplesReady = 0 ∧ ({ opened with samplesLeft := 0 } : State).samplesLeft = 0) ∧
    (opened.failUnpacker .endOfStream).status.ufail = true := by decide +kernel

theorem witness_ReadDeliversReadySamples :
    let s : State := { opened with samplesReady := 2, arg0 := 2, arg1 := 0xFFFFFFFF }
    s.status.fault = false ∧ s.status.opened = true ∧ s.arg0.toNat ≤ s.samplesReady.toNat := by decide +kernel

theorem witness_ReadConservesSamples : Readable opened := opened_readable

theorem witness_PartialReadsConcatenate :
    Readable opened ∧ (20 : Word).toNat + (30 : Word).toNat < 2 ^ 32 := ⟨opened_readable, by decide +kernel⟩

theorem witness_ReadIgnoresOldBuffer : Readable opened ∧ opened.samplesReady = 0 := ⟨opened_readable, rfl⟩

theorem witness_RewindRestoresTheStart :
    faulted.status.fault = true ∧ (State.reset.status.fault = false ∧ State.reset.status.opened = false) ∧
    opened.status.fault = false ∧ opened.status.opened = true := by decide +kernel

theorem witness_RewindEqualsFreshOpen :
    Header (fresh p1Stream) Config.MAGIC 50 1 22050 0x34 ∧ GoodGeometry (fresh p1Stream) 0x34 ∧
    opened.status.fault = false ∧ opened.status.opened = true ∧ opened.stream = (fresh p1Stream).stream ∧
    opened.samples = BitVec.ofNat 32 50 ∧ opened.levels = BitVec.ofNat 12 (0x34 / 16) ∧
    opened.subblocks = BitVec.ofNat 4 (0x34 % 16) :=
  ⟨p1_header, by unfold GoodGeometry; decide +kernel, rfl, rfl, rfl, rfl, rfl, rfl⟩

theorem witness_GrowCodesWiden :
    (growField (1 : BitVec 2) = true ∧ (atWidth 2).ctxWidth (atWidth 2).lvlptr.toNat = 2 ∧
      (atWidth 2).contextLegal = true) ∧
    (growField (0x7FFF : BitVec 16) = true ∧ (atWidth 16).ctxWidth (atWidth 16).lvlptr.toNat = 16 ∧
      (atWidth 16).contextLegal = true) := by decide +kernel

theorem witness_HoldCodesKeepTheWidth :
    (holdField (0 : BitVec 2) = true ∧ (atWidth 2).ctxWidth (atWidth 2).lvlptr.toNat = 2 ∧
      (atWidth 2).contextLegal = true) ∧
    (holdField (0x2000 : BitVec 16) = true ∧ (atWidth 16).ctxWidth (atWidth 16).lvlptr.toNat = 16 ∧
      (atWidth 16).contextLegal = true) := by decide +kernel

theorem witness_ShrinkCodesNarrow :
    (shrinkField (0 : BitVec 3) = true ∧ (atWidth 3).ctxWidth (atWidth 3).lvlptr.toNat = 3 ∧
      (atWidth 3).contextLegal = true) ∧
    (shrinkField (0xFFFF : BitVec 16) = true ∧ (atWidth 16).ctxWidth (atWidth 16).lvlptr.toNat = 16 ∧
      (atWidth 16).contextLegal = true) := by decide +kernel

end Sys2Proof.Tests
end

/-! ## Laws of the checks, the register space, the dispatch and OPEN's parse (spec/10_state.md R21;
spec/30_encoding.md R76, R82, R88; spec/40_header_open.md R100) -/

namespace Sys2Proof.Machine

open Sys2Proof

/-! ### The checks of Machine/Operands.lean -/

theorem uGeomOK_iff (s : State) : s.uGeomOK = true ↔
    1 ≤ s.levels.toNat ∧ s.levels.toNat ≤ 16 ∧ 1 ≤ s.subblocks.toNat ∧ s.subblocks.toNat ≤ 15 := by
  simp [State.uGeomOK, Config.LEVELS_MAX, Config.SUBBLOCKS_MAX, and_assoc]

theorem uGeomOK_of_legal {s : State} (h : s.contextLegal = true) : s.uGeomOK = true :=
  (uGeomOK_iff s).2 ((contextLegal_iff s).1 h).1

/-- The width a legal context gives the next code. -/
theorem nextWidth_legal {s : State} (h : s.contextLegal = true) :
    2 ≤ s.ctxWidth s.lvlptr.toNat ∧ s.ctxWidth s.lvlptr.toNat ≤ 16 := by
  obtain ⟨-, hl, hw⟩ := (contextLegal_iff s).1 h
  exact hw _ hl

theorem decodeArgOK_iff (s : State) : s.decodeArgOK = true ↔
    1 ≤ s.arg0.toNat ∧ s.arg0.toNat * 2 ^ s.levels.toNat ≤ 983040 := by
  unfold State.decodeArgOK
  rw [Bool.and_eq_true, decide_eq_true_iff, decide_eq_true_iff]

theorem boolWord_eq_one {b : Bool} (h : boolWord b = 1) : b = true := by
  cases b
  · exact absurd h (by decide)
  · rfl

/-! ### The register space and the host's actions -/

/-- CMD stands at offset 0 only. -/
theorem regAt_eq_cmd {offset : Nat} (h : regAt offset = some .cmd) : offset = 0 := by
  unfold regAt at h
  split at h
  · rfl
  case h_22 => split_ifs at h <;> cases h
  all_goals cases h

theorem regAt_ctx (i : Fin 16) : regAt (0x80 + 4 * i) = some (.ctx i) := by
  revert i
  decide

theorem regAt_scr (i : Fin 16) : regAt (0xC0 + 4 * i) = some (.scr i) := by
  revert i
  decide

theorem geometryWritable_iff (s : State) :
    s.geometryWritable = true ↔ s.status.opened = false ∧ s.status.fault = false := by
  simp [State.geometryWritable]

/-- A performed read of a register's offset. -/
theorem readReg_of_regAt (s : State) {offset : Nat} {r : Reg} (h4 : offset % 4 = 0) (h : regAt offset = some r) :
    s.readReg offset 32 = s.regValue r := by
  simp [State.readReg, accessPerformed, h4, h]

/-- A step over a performed write to a register other than CMD. -/
theorem step_writeReg {s : State} {offset : Nat} {v : Word} {rest : List HostAction} {r : Reg}
    (hp : s.port ≠ .wanted) (ha : s.actions = .write offset 32 v :: rest) (h4 : offset % 4 = 0)
    (hr : regAt offset = some r) (hne : r ≠ .cmd) : step s = .next ((s.popAction rest).writeReg r v) := by
  rw [step_host hp ha]
  unfold perform hostWrite
  dsimp only
  rw [if_pos (by simp [accessPerformed, h4]), hr]
  cases r
  case cmd => contradiction
  all_goals rfl

/-- The registers at which a host write has an effect (spec/44_system.md R173, R174). -/
def writable : List Reg := [.cmd, .arg0, .arg1, .bufidx, .bufdata, .levels, .subblocks]

theorem writeReg_readOnly (s : State) {r : Reg} (v : Word) (h : r ∉ writable) : s.writeReg r v = s := by
  cases r
  case arg0 | arg1 | bufidx | bufdata | levels | subblocks => exact absurd (by decide) h
  all_goals rfl

/-- The offsets of R21 at which a read-only register stands. -/
theorem regAt_readOnly {offset : Nat}
    (h : offset ∈ [0x04, 0x10, 0x14, 0x18, 0x1C, 0x28, 0x2C, 0x30, 0x34, 0x38, 0x3C, 0x40, 0x44, 0x48] ∨
      (0x80 ≤ offset ∧ offset < 0x100 ∧ offset % 4 = 0)) :
    offset % 4 = 0 ∧ ∃ r, regAt offset = some r ∧ r ∉ writable := by
  rcases h with h | ⟨h80, h100, h4⟩
  · simp only [List.mem_cons, List.not_mem_nil, or_false] at h
    rcases h with rfl | rfl | rfl | rfl | rfl | rfl | rfl | rfl | rfl | rfl | rfl | rfl | rfl | rfl <;>
      exact ⟨rfl, _, rfl, by decide⟩
  · by_cases hctx : offset < 0xC0
    · obtain ⟨i, hi, rfl⟩ : ∃ i, ∃ hi : i < 16, offset = 0x80 + 4 * i := ⟨(offset - 0x80) / 4, by omega, by omega⟩
      exact ⟨h4, _, regAt_ctx ⟨i, hi⟩, by simp [writable]⟩
    · obtain ⟨i, hi, rfl⟩ : ∃ i, ∃ hi : i < 16, offset = 0xC0 + 4 * i := ⟨(offset - 0xC0) / 4, by omega, by omega⟩
      exact ⟨h4, _, regAt_scr ⟨i, hi⟩, by simp [writable]⟩

theorem step_wait {s : State} (hp : s.port ≠ .wanted) (ha : s.actions = []) : step s = .next s := by
  unfold step stepHost
  rw [ha]
  split
  · contradiction
  · rfl
  · rfl

/-! ### Commands, codes, OPEN's parse -/

/-- The eleven commands (R76). -/
def commands : List Instr :=
  [.nop, .openStream, .uinit, .ureset, .getblk, .dinit, .decode, .refill, .read, .rewind, .srst]

/-- A word that decodes, decodes to a command. -/
theorem mem_commands_of_decode {w : Word} {i : Instr} (h : decode (.command w) = .ok i) : i ∈ commands := by
  change decodeCommand w = .ok i at h
  unfold decodeCommand at h
  split at h <;> cases h <;> decide

/-- Only UINIT's own word decodes to it. -/
theorem word_of_decode_uinit {w : Word} (h : decode (.command w) = .ok .uinit) : w = 2 := by
  change decodeCommand w = .ok .uinit at h
  unfold decodeCommand at h
  split at h <;> cases h
  next hw => exact BitVec.eq_of_toNat_eq hw

/-- What the table's row of a class does to the state, over the bits BU has fetched (R117 to R120). -/
def runClass {w : Nat} (u : BitVec w) (s : State) : CodeClass → Out
  | .grow => runCode (growCode u) s
  | .hold => runCode (holdCode u) s
  | .shrink => runCode (shrinkCode u) s
  | .rsv => .next ((rsvCode s).2.deliver (rsvCode s).1)

/-- The row of a width and a class does what the class does. -/
theorem exec_codeRow {w u : Nat} {c : CodeClass} {i : Instr} (h : codeRow w u c = .ok i) (s : State) :
    exec i s = runClass (BitVec.ofNat w u) s c := by
  cases c
  all_goals
    unfold codeRow at h
    dsimp only at h
    split at h
    all_goals cases h
  all_goals rfl

/-- Every class of a legal width has its row, but SHRINK of width 2. -/
theorem codeRow_isOk {w : Nat} (u : Nat) {c : CodeClass} (h2 : 2 ≤ w) (h16 : w ≤ 16) (hc : w = 2 → c ≠ .shrink) :
    ∃ i, codeRow w u c = .ok i := by
  cases c
  case shrink =>
    have h3 : 3 ≤ w := by
      have : w ≠ 2 := fun hw => hc hw rfl
      omega
    interval_cases w <;> exact ⟨_, rfl⟩
  all_goals interval_cases w <;> exact ⟨_, rfl⟩

/-- No field of width 2 is a SHRINK. -/
theorem classOfField_two_ne_shrink (u : Nat) : classOfField 2 u ≠ .shrink := by
  simp only [classOfField, show 2 < 3 by omega, if_true]
  split_ifs <;> simp

/-- What the decoder accepts as a code has a legal width and is its class's row. -/
theorem decode_code_iff {w u : Nat} {i : Instr} :
    decode (.code w u) = .ok i ↔ (2 ≤ w ∧ w ≤ 16 ∧ u < 2 ^ w) ∧ codeRow w u (classOfField w u) = .ok i := by
  change decodeCode w u = .ok i ↔ _
  simp only [decodeCode, Config.W_MIN, Config.W_MAX]
  split_ifs with hw hu
  · simp only [false_iff, not_and]; omega
  · simp only [false_iff, not_and]; omega
  · exact ⟨fun h => ⟨by omega, h⟩, And.right⟩

/-- A code of a legal width decodes, and over a legal context it does what ReadCode's branch does (R116). -/
theorem decode_code_classify {w : Nat} (u : BitVec w) {s : State} (h2 : 2 ≤ w) (h16 : w ≤ 16)
    (hc : s.contextLegal = true) :
    ∃ i, decode (.code w u.toNat) = .ok i ∧ exec i s = .next ((classify u s).2.deliver (classify u s).1) := by
  obtain ⟨i, hi⟩ := codeRow_isOk u.toNat h2 h16 (c := classOfField w u.toNat)
    (fun hw => by subst hw; exact classOfField_two_ne_shrink _)
  refine ⟨i, decode_code_iff.2 ⟨⟨h2, h16, u.isLt⟩, hi⟩, ?_⟩
  rw [exec_codeRow hi, BitVec.ofNat_toNat, BitVec.setWidth_eq, classify_eq u s h2]
  cases classOfField w u.toNat <;> simp only [runClass, runCode, hc, if_true]

/-- Noting that a command has run changes nothing that FetchBits' loop looks at. -/
theorem fillBits_markLive (w rounds : Nat) (s : State) :
    fillBits w rounds s.markLive = (fillBits w rounds s).markLive := by
  induction rounds generalizing s with
  | zero => rfl
  | succ rounds ih =>
    rw [fillBits, fillBits, apply_ite State.markLive, ← ih]
    rfl

theorem fetchBits_markLive (w : Nat) (s : State) :
    fetchBits w s.markLive = ((fetchBits w s).1, (fetchBits w s).2.markLive) := by
  unfold fetchBits
  rw [fillBits_markLive]
  dsimp only
  change (if (fillBits w w s).bitcnt.toNat < w then (none, (fillBits w w s).markLive)
    else (some ((fillBits w w s).bitbuf.setWidth w), ((fillBits w w s).consumeBits w).markLive)) = _
  split <;> rfl

theorem readCode_of_none {s s' : State} (h : fetchBits (s.ctxWidth s.lvlptr.toNat) s = (none, s')) :
    readCode s = eosCode s' := by
  unfold readCode
  rw [h]

theorem readCode_of_some {s s' : State} {u : BitVec (s.ctxWidth s.lvlptr.toNat)}
    (h : fetchBits (s.ctxWidth s.lvlptr.toNat) s = (some u, s')) : readCode s = classify u s' := by
  unfold readCode
  rw [h]

theorem fetchCode_of_none {s s' : State} (h : fetchBits (s.ctxWidth s.lvlptr.toNat) s = (none, s')) :
    fetchCode s = (.endOfStream, s') := by
  unfold fetchCode
  rw [h]

theorem fetchCode_of_some {s s' : State} {u : BitVec (s.ctxWidth s.lvlptr.toNat)}
    (h : fetchBits (s.ctxWidth s.lvlptr.toNat) s = (some u, s')) :
    fetchCode s = (.code (s.ctxWidth s.lvlptr.toNat) u.toNat, s') := by
  unfold fetchCode
  rw [h]

/-- A step at a port that wants a code is ReadCode, its answer put on the port (notes/assumptions/6.md). -/
theorem stepCode_eq_readCode {s : State} (hc : s.contextLegal = true) :
    stepCode s = .next ((readCode s.markLive).2.deliver (readCode s.markLive).1) := by
  obtain ⟨h2, h16⟩ := nextWidth_legal hc
  obtain ⟨p, b, c, hframe⟩ := fetchBits_frame (s.ctxWidth s.lvlptr.toNat) s
  have hmark := fetchBits_markLive (s.ctxWidth s.lvlptr.toNat) s
  unfold stepCode
  rw [if_pos hc]
  rcases hf : fetchBits (s.ctxWidth s.lvlptr.toNat) s with ⟨_ | u, s'⟩ <;> rw [hf] at hmark hframe
  · rw [fetchCode_of_none hf, readCode_of_none (s := s.markLive) hmark]
    rfl
  · have hctx : s'.markLive.contextLegal = true := by
      simp only at hframe
      rw [hframe]
      exact hc
    obtain ⟨i, hi, hexec⟩ := decode_code_classify u h2 h16 hctx
    rw [fetchCode_of_some hf, readCode_of_some (s := s.markLive) hmark]
    dsimp only
    rw [hi]
    exact hexec

/-- A typed read that answers was inside the stream and has moved POS. -/
theorem State.typedRead_inv {s t : State} {n v : Nat} (h : s.typedRead n = .ok (v, t)) :
    s.pos.toNat + n ≤ s.size ∧ t = { s with pos := s.pos + BitVec.ofNat 32 n } := by
  unfold State.typedRead at h
  split at h
  · next hm =>
    cases h
    exact ⟨(s.memRead_isSome _ _).1 (by rw [hm]; rfl), rfl⟩
  · cases h

/-- A sequence of two that answers is a first that answers and a second that answers over it. -/
theorem bind_eq_ok {ε α β : Type} {x : Except ε α} {f : α → Except ε β} {b : β} (h : x >>= f = .ok b) :
    ∃ a, x = .ok a ∧ f a = .ok b := by
  cases x with
  | error e => cases h
  | ok a => exact ⟨a, rfl, h⟩

/-- A parse that answers leaves the header's fields in their registers and the cursor at the payload. -/
theorem parseHeader_ok {s t : State} (h : parseHeader s = .ok t) :
    Config.HDR_BYTES ≤ s.size ∧ ∃ (n : Word) (c r : BitVec 16) (l : BitVec 12) (b : BitVec 4),
      t = { s with pos := BitVec.ofNat 32 Config.HDR_BYTES, samples := n, channels := c, rate := r, levels := l,
                   subblocks := b, samplesLeft := n, samplesReady := 0, rdptr := 0 } := by
  unfold parseHeader at h
  split at h
  · cases h
  · obtain ⟨⟨sig, s0⟩, h0, h⟩ := bind_eq_ok h
    dsimp only at h
    split at h
    · cases h
    · split at h
      · cases h
      · obtain ⟨⟨n, s1⟩, h1, h⟩ := bind_eq_ok h
        obtain ⟨⟨c, s2⟩, h2, h⟩ := bind_eq_ok h
        obtain ⟨⟨r, s3⟩, h3, h⟩ := bind_eq_ok h
        obtain ⟨⟨g, s4⟩, h4, h⟩ := bind_eq_ok h
        obtain ⟨-, rfl⟩ := State.typedRead_inv h0
        obtain ⟨-, rfl⟩ := State.typedRead_inv h1
        obtain ⟨-, rfl⟩ := State.typedRead_inv h2
        obtain ⟨-, rfl⟩ := State.typedRead_inv h3
        obtain ⟨hin, rfl⟩ := State.typedRead_inv h4
        cases h
        exact ⟨hin, _, _, _, _, _, rfl⟩

/-- Both units' initialisations, where both pass. -/
theorem initUnits_ok {s t : State} (h : initUnits s = .ok t) :
    s.uGeomOK = true ∧ s.dGeomOK = true ∧ t = ((s.unpackerReset.setUok true).clearScr.setDok true).setOpened := by
  unfold initUnits unpackerInit at h
  by_cases hu : (s.uGeomOK && s.payloadSuffices) = true
  · rw [if_pos hu] at h
    unfold decoderInit at h
    rw [show (s.unpackerReset.setUok true).dGeomOK = s.dGeomOK from rfl] at h
    by_cases hd : s.dGeomOK = true
    · rw [if_pos hd] at h
      cases h
      exact ⟨(Bool.and_eq_true_iff.1 hu).1, hd, rfl⟩
    · rw [if_neg hd] at h
      cases h
  · rw [if_neg hu] at h
    cases h

end Sys2Proof.Machine

/-! ## Every named update of the state keeps the invariant (spec/10_state.md R40)

The updates are taken one by one; the meanings of the instructions are compositions of them. -/

namespace Sys2Proof.Safety

open Sys2Proof Sys2Proof.Machine

/-- R39's state has the invariant. -/
theorem inv_reset : Inv State.reset where
  bufForm := rfl
  bufBounds := rfl
  outForm := rfl
  outBounds := rfl
  sizeFits := by decide
  posInStream := fun _ => Nat.zero_le _
  freshStart := fun _ => ⟨rfl, rfl⟩
  accumulator := by decide
  unpackerReady := nofun
  decoderReady := nofun
  openConsistent := nofun
  faultClean := nofun
  causeWithUfail := by decide
  portReady := nofun

section
variable {s : State}

/-- Nothing in the invariant speaks of what the host owns or has been told, of RESULT or of ERR. -/
theorem Inv.hostFields (h : Inv s) (arg0 arg1 result : Word) (bufidx : BitVec 20) (err : ErrCode)
    (actions : List HostAction) (readLog : List Word) :
    Inv { s with arg0 := arg0, arg1 := arg1, result := result, bufidx := bufidx,
                 status := { s.status with err := err }, actions := actions, readLog := readLog } :=
  { h with
    openConsistent := fun ho => { h.openConsistent ho with }
    faultClean := fun hf => { h.faultClean hf with } }

theorem Inv.complete (h : Inv s) (v : Word) : Inv (s.complete v) :=
  h.hostFields s.arg0 s.arg1 v s.bufidx .ok s.actions s.readLog

theorem Inv.refuse (h : Inv s) (code : ErrCode) : Inv (s.refuse code) :=
  h.hostFields s.arg0 s.arg1 0 s.bufidx code s.actions s.readLog

theorem Inv.popAction (h : Inv s) (rest : List HostAction) : Inv (s.popAction rest) :=
  h.hostFields s.arg0 s.arg1 s.result s.bufidx s.status.err rest s.readLog

theorem Inv.logRead (h : Inv s) (v : Word) : Inv (s.logRead v) :=
  h.hostFields s.arg0 s.arg1 s.result s.bufidx s.status.err s.actions (s.readLog ++ [v])

/-- A code's answer leaves the port no longer wanting one. -/
theorem Inv.deliver (h : Inv s) (r : CodeResult) : Inv (s.deliver r) :=
  { h with
    openConsistent := fun ho => { h.openConsistent ho with }
    faultClean := fun hf => { h.faultClean hf with }
    portReady := nofun }

theorem Inv.setBuf (h : Inv s) {m : Memory Slot} (hw : m.wf = true) (hb : m.below Config.BUF_SLOTS = true) :
    Inv { s with buf := m } :=
  { h with
    bufForm := hw
    bufBounds := hb
    openConsistent := fun ho => { h.openConsistent ho with }
    faultClean := fun hf => { h.faultClean hf with } }

theorem Inv.writeSlot (h : Inv s) {i : Nat} (hi : i < Config.BUF_SLOTS) (v : Slot) : Inv (s.writeSlot i v) :=
  h.setBuf (Memory.wf_write _ _ _ h.bufForm) (Memory.below_write _ _ _ _ h.bufBounds hi)

/-- Outside the FAULT state the scratch file may hold anything. -/
theorem Inv.setScr (h : Inv s) (hf : s.status.fault = false) (x : Vector Slot 16) : Inv { s with scr := x } :=
  { h with
    openConsistent := fun ho => { h.openConsistent ho with }
    faultClean := fun hf' => absurd (hf.symm.trans hf') nofun }

theorem markLive_changed_iff (s : State) : s.markLive.session = .changed ↔ s.session = .changed := by
  rw [State.markLive_eq]
  split <;> simp_all

theorem markLive_not_fresh (s : State) : s.markLive.session ≠ .fresh := by
  rw [State.markLive_eq]
  split <;> simp

theorem Inv.markLive (h : Inv s) : Inv s.markLive :=
  { h with
    posInStream := fun hc => h.posInStream (mt (markLive_changed_iff s).2 hc)
    freshStart := fun hf => absurd hf (markLive_not_fresh s)
    openConsistent := fun ho => { h.openConsistent ho with
      headerPresent := fun hc => (h.openConsistent ho).headerPresent (mt (markLive_changed_iff s).2 hc) }
    faultClean := fun hf => { h.faultClean hf with } }

/-- A stream attached before the first command leaves the cursor at 0; a later one is recorded as changed. -/
theorem Inv.attachStream (h : Inv s) {bytes : List Byte} (hb : bytes.length < 2 ^ 32) :
    Inv (s.attachStream bytes) := by
  have hfresh : (s.attachStream bytes).session ≠ .changed → s.session = .fresh := by
    rw [State.attachStream_session]
    cases s.session <;> simp
  have hstart : (s.attachStream bytes).session = .fresh → s.session = .fresh := by
    rw [State.attachStream_session]
    cases s.session <;> simp
  exact { h with
    sizeFits := hb
    posInStream := fun hc => by
      obtain ⟨hp, -⟩ := h.freshStart (hfresh hc)
      simp [hp]
    freshStart := fun hf => h.freshStart (hstart hf)
    openConsistent := fun ho => { h.openConsistent ho with
      headerPresent := fun hc => by
        obtain ⟨-, hno⟩ := h.freshStart (hfresh hc)
        exact absurd (hno.symm.trans ho) nofun }
    faultClean := fun hf => { h.faultClean hf with } }

/-- Reset, of whatever state whose output space and stream are in form (R39). -/
theorem Inv.resetBlock (h : Inv s) : Inv s.resetBlock :=
  { inv_reset with
    outForm := h.outForm
    outBounds := h.outBounds
    sizeFits := h.sizeFits
    posInStream := fun _ => Nat.zero_le _
    openConsistent := nofun
    faultClean := nofun }

theorem fatalCode_ne_none (e : FatalError) : e.fatalCode ≠ .none := by cases e <;> simp [FatalError.fatalCode]

/-- Fatal-error entry leaves what R40(f) asks of the FAULT state (spec/60_exceptions.md R186). -/
theorem Inv.raise (h : Inv s) (hp : s.port ≠ .wanted) (e : FatalError) : Inv (s.raise e) :=
  { inv_reset with
    bufForm := h.bufForm
    bufBounds := h.bufBounds
    outForm := h.outForm
    outBounds := h.outBounds
    sizeFits := h.sizeFits
    posInStream := fun _ => Nat.zero_le _
    freshStart := fun _ => ⟨rfl, rfl⟩
    openConsistent := nofun
    faultClean := fun _ => ⟨⟨rfl, rfl, rfl, rfl, rfl⟩, fatalCode_ne_none e, ⟨rfl, rfl, rfl, rfl, rfl⟩,
      ⟨rfl, rfl, rfl, rfl⟩, ⟨rfl, rfl, rfl, rfl⟩, rfl⟩
    portReady := fun hw => absurd hw hp }

/-- With no stream open, no FAULT and both units uninitialised, the header fields and the counters may hold anything,
and the cursor may stand anywhere in the stream. Host writes to the geometry and OPEN's parse are of this kind. -/
theorem Inv.clearInits_header (h : Inv s) (hf : s.status.fault = false) (ho : s.status.opened = false)
    (hw : s.port ≠ .wanted) {pos : Word} (hpos : s.session ≠ .changed → pos.toNat ≤ s.size)
    (hfresh : s.session = .fresh → pos = 0) (n left ready : Word) (c r : BitVec 16) (l : BitVec 12) (b : BitVec 4)
    (d : BitVec 20) :
    Inv { s.clearInits with
      pos := pos, samples := n, channels := c, rate := r, levels := l, subblocks := b, samplesLeft := left,
      samplesReady := ready, rdptr := d } :=
  { h with
    posInStream := hpos
    freshStart := fun hs => ⟨hfresh hs, ho⟩
    unpackerReady := nofun
    decoderReady := nofun
    openConsistent := fun ho' => absurd (ho.symm.trans ho') nofun
    faultClean := fun hf' => absurd (hf.symm.trans hf') nofun
    portReady := fun hw' => absurd hw' hw }

/-- A geometry written by the host (spec/44_system.md R174). -/
theorem Inv.clearInits_geometry (h : Inv s) (hf : s.status.fault = false) (ho : s.status.opened = false)
    (hw : s.port ≠ .wanted) (l : BitVec 12) (b : BitVec 4) :
    Inv { s.clearInits with levels := l, subblocks := b } :=
  h.clearInits_header hf ho hw h.posInStream (fun hs => (h.freshStart hs).1) s.samples s.samplesLeft s.samplesReady
    s.channels s.rate l b s.rdptr

/-- A successful UnpackerInit's flag stands over a legal context. -/
theorem Inv.setUok_true (h : Inv s) (hf : s.status.fault = false) (hc : s.contextLegal = true) :
    Inv (s.setUok true) :=
  { h with
    unpackerReady := fun _ => hc
    openConsistent := fun ho => { h.openConsistent ho with }
    faultClean := fun hf' => absurd (hf.symm.trans hf') nofun
    portReady := fun _ => rfl }

theorem Inv.setUok_false (h : Inv s) (hf : s.status.fault = false) (hw : s.port ≠ .wanted) : Inv (s.setUok false) :=
  { h with
    unpackerReady := nofun
    openConsistent := fun ho => { h.openConsistent ho with }
    faultClean := fun hf' => absurd (hf.symm.trans hf') nofun
    portReady := fun hw' => absurd hw' hw }

theorem Inv.setDok_true (h : Inv s) (hf : s.status.fault = false) (hg : s.dGeomOK = true) : Inv (s.setDok true) :=
  { h with
    decoderReady := fun _ => hg
    openConsistent := fun ho => { h.openConsistent ho with dok := rfl }
    faultClean := fun hf' => absurd (hf.symm.trans hf') nofun }

theorem Inv.setDok_false (h : Inv s) (hf : s.status.fault = false) (ho : s.status.opened = false) :
    Inv (s.setDok false) :=
  { h with
    decoderReady := nofun
    openConsistent := fun ho' => absurd (ho.symm.trans ho') nofun
    faultClean := fun hf' => absurd (hf.symm.trans hf') nofun }

/-- OPENED is set over a state that R40(e) describes, once a command has run. -/
theorem Inv.setOpened (h : Inv s) (hs : s.session ≠ .fresh) (ho : OpenConsistent s) : Inv s.setOpened :=
  { h with
    freshStart := fun hs' => absurd hs' hs
    openConsistent := fun _ => { ho with }
    faultClean := fun hf => absurd (ho.noFault.symm.trans hf) nofun }

/-- UnpackerResetState makes the context of every legal geometry legal (spec/41_unpacker.md R113). -/
theorem unpackerReset_legal (hg : s.uGeomOK = true) : s.unpackerReset.contextLegal = true := by
  have hgeom := (uGeomOK_iff s).1 hg
  have ⟨hl1, hl16, _, _⟩ := hgeom
  refine (contextLegal_iff _).2 ⟨hgeom, hl1, fun i hi => ?_⟩
  have hi' : i < s.levels.toNat := hi
  have hw : s.unpackerReset.ctxWidth i = 4 := by
    simp [State.ctxWidth, Config.W_INIT, hi', show i < 16 by omega]
  omega

theorem Inv.unpackerReset (h : Inv s) (hf : s.status.fault = false) (hg : s.uGeomOK = true) : Inv s.unpackerReset :=
  { h with
    accumulator := inv_reset.accumulator
    unpackerReady := fun _ => unpackerReset_legal hg
    openConsistent := fun ho => { h.openConsistent ho with context := unpackerReset_legal hg }
    faultClean := fun hf' => absurd (hf.symm.trans hf') nofun
    causeWithUfail := by simp }

/-- REWIND's move of the cursor to the payload's first byte, and its counters (spec/43_stream.md R156). -/
theorem Inv.rewound (h : Inv s) (ho : s.status.opened = true) :
    Inv { s with pos := BitVec.ofNat 32 Config.HDR_BYTES, samplesReady := 0, samplesLeft := s.samples, rdptr := 0 } :=
  have hopen := h.openConsistent ho
  { h with
    posInStream := hopen.headerPresent
    freshStart := fun hs => absurd ((h.freshStart hs).2.symm.trans ho) nofun
    openConsistent := fun _ => { hopen with
      conserved := by simp
      readyInBlock := Nat.zero_le _
      cursorInBlock := Nat.zero_le _ }
    faultClean := fun hf => absurd (hopen.noFault.symm.trans hf) nofun }

end

end Sys2Proof.Safety

/-! ## BU, RE and SEQ keep the invariant while codes are read (spec/41_unpacker.md R115 to R122,
spec/43_stream.md R151, R153) -/

namespace Sys2Proof.Safety

open Sys2Proof Sys2Proof.Machine

/-- A state of the invariant in which BU may read codes: no FAULT, a legal context, and a command begun. -/
structure Unpacking (s : State) : Prop where
  inv : Inv s
  noFault : s.status.fault = false
  context : s.contextLegal = true
  begun : s.session ≠ .fresh

section
variable {s : State}

/-- BU's cursor, accumulator, context and level pointer may take any values that R40(a) to (c) allow. -/
theorem Unpacking.moveBU (h : Unpacking s) {p b : Word} {c : BitVec 5} {l : BitVec 4} {x : Vector (BitVec 5) 16}
    (hp : s.session ≠ .changed → p.toNat ≤ s.size) (hacc : c.toNat ≤ 23 ∧ b.toNat < 2 ^ c.toNat)
    (hc : ({ s with ctx := x, lvlptr := l } : State).contextLegal = true) :
    Unpacking { s with pos := p, bitbuf := b, bitcnt := c, ctx := x, lvlptr := l } :=
  { h with
    inv := { h.inv with
      posInStream := hp
      freshStart := fun hs => absurd hs h.begun
      accumulator := hacc
      unpackerReady := fun _ => hc
      openConsistent := fun ho => { h.inv.openConsistent ho with context := hc }
      faultClean := fun hf => absurd (h.noFault.symm.trans hf) nofun }
    context := hc }

theorem Unpacking.writeSlot (h : Unpacking s) {i : Nat} (hi : i < Config.BUF_SLOTS) (v : Slot) :
    Unpacking (s.writeSlot i v) :=
  { h with inv := h.inv.writeSlot hi v }

/-- A failed ReadCode records a cause with UFAIL (R40(g)). -/
theorem Unpacking.failUnpacker (h : Unpacking s) {c : Cause} (hc : c ≠ .none) : Unpacking (s.failUnpacker c) :=
  { h with
    inv := { h.inv with
      openConsistent := fun ho => { h.inv.openConsistent ho with }
      faultClean := fun hf => absurd (h.noFault.symm.trans hf) nofun
      causeWithUfail := by simp [hc] } }

/-- A byte moved into an accumulator of fewer than sixteen bits leaves at most 23 there, and they are its valid ones. -/
theorem fetchByte_accumulator (s : State) (hc : s.bitcnt.toNat < 16) (hb : s.bitbuf.toNat < 2 ^ s.bitcnt.toNat) :
    s.fetchByte.bitcnt.toNat = s.bitcnt.toNat + 8 ∧ s.fetchByte.bitbuf.toNat < 2 ^ (s.bitcnt.toNat + 8) := by
  generalize hbyte : (s.stream[s.pos.toNat]?).getD 0 = byte
  have hlt : byte.toNat * 2 ^ s.bitcnt.toNat < 2 ^ (s.bitcnt.toNat + 8) := by
    rw [add_comm, pow_add]
    exact Nat.mul_lt_mul_of_pos_right byte.isLt (Nat.two_pow_pos _)
  have hshift : ((byte.setWidth 32) <<< s.bitcnt.toNat).toNat < 2 ^ (s.bitcnt.toNat + 8) := by
    rw [BitVec.toNat_shiftLeft, Nat.shiftLeft_eq, BitVec.toNat_setWidth,
      Nat.mod_eq_of_lt (byte.isLt.trans (by decide))]
    exact (Nat.mod_le _ _).trans_lt hlt
  refine ⟨?_, ?_⟩
  · rw [State.fetchByte_bitcnt, BitVec.toNat_add]
    exact Nat.mod_eq_of_lt (by simp; omega)
  · rw [State.fetchByte_bitbuf, hbyte, BitVec.toNat_or]
    exact Nat.or_lt_two_pow (hb.trans (Nat.pow_lt_pow_right (by omega) (by omega))) hshift

/-- A byte inside the stream leaves the cursor inside it. -/
theorem fetchByte_pos (s : State) (hp : s.pos.toNat < s.size) (hs : s.size < 2 ^ 32) :
    s.fetchByte.pos.toNat = s.pos.toNat + 1 := by
  rw [State.fetchByte_pos, BitVec.toNat_add]
  exact Nat.mod_eq_of_lt (by simp; omega)

theorem Unpacking.fetchByte (h : Unpacking s) (hc : s.bitcnt.toNat < 16) (hp : s.pos.toNat < s.size) :
    Unpacking s.fetchByte := by
  obtain ⟨hcnt, hbuf⟩ := fetchByte_accumulator s hc h.inv.accumulator.2
  have hpos := Safety.fetchByte_pos s hp h.inv.sizeFits
  have hacc : s.fetchByte.bitcnt.toNat ≤ 23 ∧ s.fetchByte.bitbuf.toNat < 2 ^ s.fetchByte.bitcnt.toNat := by
    rw [hcnt]
    exact ⟨by omega, hbuf⟩
  exact h.moveBU (fun _ => hpos ▸ hp) hacc h.context

theorem Unpacking.fillBits (h : Unpacking s) {w : Nat} (hw : w ≤ 16) (rounds : Nat) :
    Unpacking (fillBits w rounds s) := by
  induction rounds generalizing s with
  | zero => exact h
  | succ rounds ih =>
    rw [Machine.fillBits]
    split
    · next hc => exact ih (h.fetchByte (by omega) hc.2)
    · exact h

/-- Consuming bits that the accumulator holds leaves the others. -/
theorem Unpacking.consumeBits (h : Unpacking s) {w : Nat} (hw : w ≤ s.bitcnt.toNat) : Unpacking (s.consumeBits w) := by
  obtain ⟨hle, hlt⟩ := h.inv.accumulator
  have hcnt : (s.bitcnt - BitVec.ofNat 5 w).toNat = s.bitcnt.toNat - w := by
    have : (BitVec.ofNat 5 w).toNat = w := by rw [BitVec.toNat_ofNat]; omega
    rw [BitVec.toNat_sub_of_le (by rw [BitVec.le_def]; omega), this]
  refine h.moveBU h.inv.posInStream ⟨by omega, ?_⟩ h.context
  rw [hcnt, BitVec.toNat_ushiftRight, Nat.shiftRight_eq_div_pow]
  refine Nat.div_lt_of_lt_mul ?_
  rwa [← pow_add, Nat.add_sub_cancel' hw]

theorem Unpacking.fetchBits (h : Unpacking s) {w : Nat} (hw : w ≤ 16) : Unpacking (fetchBits w s).2 := by
  have hfill := h.fillBits hw w
  unfold Machine.fetchBits
  dsimp only
  split
  · exact hfill
  · exact hfill.consumeBits (by omega)

/-- A code class moves the context and the level pointer only, to legal values. -/
theorem Unpacking.classify (h : Unpacking s) {w : Nat} (u : BitVec w) (h2 : 2 ≤ w) (h16 : w ≤ 16) :
    Unpacking (classify u s).2 := by
  have hc := classify_legal u s h.context h2 h16
  obtain ⟨x, l, hf⟩ := classify_frame u s
  rw [hf] at hc ⊢
  exact h.moveBU h.inv.posInStream h.inv.accumulator hc

theorem Unpacking.readCode (h : Unpacking s) : Unpacking (readCode s).2 := by
  obtain ⟨h2, h16⟩ := nextWidth_legal h.context
  have hfetch := h.fetchBits h16
  unfold Machine.readCode
  rcases hb : Machine.fetchBits (s.ctxWidth s.lvlptr.toNat) s with ⟨_ | u, s'⟩ <;> rw [hb] at hfetch
  · exact hfetch
  · exact hfetch.classify u h2 h16

theorem Unpacking.fillBlock (h : Unpacking s) {n j : Nat} (hn : j + n ≤ Config.BUF_SLOTS) :
    Unpacking (fillBlock n j s).2 := by
  induction n generalizing j s with
  | zero => exact h
  | succ n ih =>
    have hr := h.readCode
    rw [Machine.fillBlock]
    rcases hc : Machine.readCode s with ⟨v | _ | _, s'⟩ <;> rw [hc] at hr
    · exact ih (hr.writeSlot (by omega) _) (by omega)
    · exact hr.failUnpacker (by simp)
    · exact hr.failUnpacker (by simp)

theorem Unpacking.getOneBlock (h : Unpacking s) : Unpacking (getOneBlock s).2 := by
  unfold Machine.getOneBlock
  split
  · exact h
  · have := s.subblocks.isLt
    exact h.fillBlock (by simp only [Config.BUF_SLOTS]; omega)

/-- DecodeData over a span that fits the buffer (spec/42_decoder.md R133). -/
theorem Inv.decodeData (h : Inv s) (hf : s.status.fault = false) {S : Nat}
    (hS : 2 ^ s.levels.toNat * S ≤ Config.BUF_SLOTS) : Inv (decodeData S s) := by
  have hm := runStages_memory s.levels.toNat 0 S _ s hS h.bufForm h.bufBounds
  obtain ⟨m, x, hd⟩ := decodeData_frame S s
  rw [← Machine.decodeData, hd] at hm
  obtain ⟨hw, hb⟩ := hm
  rw [hd]
  exact (h.setBuf hw hb).setScr hf x

end

/-- A state in which READ may run: BU may read codes, and a stream is open. -/
structure Streaming (s : State) : Prop where
  unpacking : Unpacking s
  opened : s.status.opened = true

section
variable {s : State}

theorem Streaming.consistent (h : Streaming s) : OpenConsistent s := h.unpacking.inv.openConsistent h.opened

/-- The block of an open stream has a slot at least, and fits the buffer (R40(d)). -/
theorem Streaming.blockSize_bounds (h : Streaming s) : 1 ≤ s.blockSize ∧ s.blockSize ≤ 983040 := by
  obtain ⟨-, -, hS, hb⟩ := (State.dGeomOK_iff s).1 h.consistent.geometry
  exact ⟨Nat.mul_pos (Nat.two_pow_pos _) hS, hb⟩

theorem Streaming.getOneBlock (h : Streaming s) : Streaming (getOneBlock s).2 := by
  refine ⟨h.unpacking.getOneBlock, ?_⟩
  obtain ⟨p, b, c, x, l, m, f, k, hf⟩ := getOneBlock_frame s
  rw [hf]
  exact h.opened

theorem Streaming.decodeBlock (h : Streaming s) : Streaming (decodeData s.subblocks.toNat s) := by
  have hinv := h.unpacking.inv.decodeData h.unpacking.noFault h.blockSize_bounds.2
  obtain ⟨m, x, hd⟩ := decodeData_frame s.subblocks.toNat s
  rw [hd] at hinv ⊢
  exact ⟨{ h.unpacking with inv := hinv }, h.opened⟩

/-- SEQ's counters and read pointer may take any values that R40(e) allows. -/
theorem Streaming.setCounters (h : Streaming s) {ready left : Word} {d : BitVec 20}
    (hsum : ready.toNat + left.toNat ≤ s.samples.toNat) (hready : ready.toNat ≤ s.blockSize)
    (hcursor : d.toNat + ready.toNat ≤ s.blockSize) :
    Streaming { s with samplesReady := ready, samplesLeft := left, rdptr := d } :=
  { h with
    unpacking := { h.unpacking with
      inv := { h.unpacking.inv with
        openConsistent := fun _ => { h.consistent with
          conserved := hsum
          readyInBlock := hready
          cursorInBlock := hcursor }
        faultClean := fun hf => absurd (h.consistent.noFault.symm.trans hf) nofun } } }

/-- Refill keeps the stream's invariant, and a successful one over samples still due has one ready. -/
theorem Streaming.refill (h : Streaming s) :
    Streaming (refill s).2 ∧
      ((Machine.refill s).1 = true → s.samplesLeft ≠ 0 → (Machine.refill s).2.samplesReady ≠ 0) := by
  have hg := h.getOneBlock
  obtain ⟨p, b, c, x, l, m, f, k, hframe⟩ := getOneBlock_frame s
  unfold Machine.refill
  rcases hr : Machine.getOneBlock s with ⟨_ | _, s'⟩ <;> rw [hr] at hg hframe <;> simp only at hframe ⊢
  · exact ⟨hg, nofun⟩
  · have hd := hg.decodeBlock
    have hleft : (decodeData s'.subblocks.toNat s').samplesLeft = s.samplesLeft := by
      obtain ⟨m', x', hd'⟩ := decodeData_frame s'.subblocks.toNat s'
      rw [hd', hframe]
    generalize decodeData s'.subblocks.toNat s' = t at hd hleft ⊢
    obtain ⟨hpos, hfit⟩ := hd.blockSize_bounds
    have hsum := hd.consistent.conserved
    have hlt := t.samplesLeft.isLt
    have hready : (BitVec.ofNat 32 (min t.blockSize t.samplesLeft.toNat)).toNat =
        min t.blockSize t.samplesLeft.toNat := by rw [BitVec.toNat_ofNat]; omega
    refine ⟨hd.setCounters ?_ (by omega) (by simp; omega), fun _ hne hz => ?_⟩
    · rw [BitVec.toNat_sub_of_le (by rw [BitVec.le_def]; omega)]
      omega
    · rw [← hleft] at hne
      have hz' : min t.blockSize t.samplesLeft.toNat = 0 := hready.symm.trans (congrArg BitVec.toNat hz)
      bv_omega

/-- An emission takes one ready sample (spec/43_stream.md R153). -/
theorem Streaming.emitSample (h : Streaming s) (p : Nat) (hr : s.samplesReady ≠ 0) : Streaming (emitSample p s) := by
  have hne : s.samplesReady.toNat ≠ 0 := by bv_omega
  have hlt := s.samplesReady.isLt
  have hsum := h.consistent.conserved
  have hcur := h.consistent.cursorInBlock
  have hfit := h.blockSize_bounds.2
  have hready : (s.samplesReady - 1).toNat = s.samplesReady.toNat - 1 := by
    rw [BitVec.toNat_sub_of_le (by rw [BitVec.le_def]; simp; omega)]
    rfl
  have hrd : (s.rdptr + 1).toNat = s.rdptr.toNat + 1 := by
    rw [BitVec.toNat_add]
    exact Nat.mod_eq_of_lt (by simp; omega)
  have hcount : Streaming { s with
      samplesReady := s.samplesReady - 1, samplesLeft := s.samplesLeft, rdptr := s.rdptr + 1 } :=
    h.setCounters (by omega) (by omega) (by omega)
  have hinv := hcount.unpacking.inv
  exact { hcount with
    unpacking := { hcount.unpacking with
      inv := { hinv with
        outForm := Memory.wf_write _ _ _ hinv.outForm
        outBounds := Memory.below_write _ _ _ _ hinv.outBounds (BitVec.isLt _)
        openConsistent := fun _ => { hcount.consistent with }
        faultClean := fun hf => absurd (h.consistent.noFault.symm.trans hf) nofun } } }

theorem Streaming.readLoop (h : Streaming s) (n p : Nat) : Streaming (readLoop n p s).2 := by
  induction n generalizing p s with
  | zero => exact h
  | succ n ih =>
    rw [Machine.readLoop]
    split
    · split
      · exact h
      · next hleft =>
        obtain ⟨hstream, hready⟩ := h.refill
        rcases hr : Machine.refill s with ⟨_ | _, s'⟩ <;> rw [hr] at hstream hready
        · exact hstream
        · exact ih (hstream.emitSample p (hready rfl hleft)) (p + 1)
    · next hready => exact ih (h.emitSample p hready) (p + 1)

end

end Sys2Proof.Safety

/-! ## Every step from the invariant: it answers a next state of the invariant, or the model refuses it by name -/

namespace Sys2Proof.Safety

open Sys2Proof Sys2Proof.Machine

/-- What a meaning answers is a next state, and that state has the invariant. -/
def Completes (o : Out) : Prop := ∃ t, o = .next t ∧ Inv t

theorem Completes.next {t : State} (h : Inv t) : Completes (.next t) := ⟨t, rfl, h⟩

/-- A state of the invariant over which a command starts: noted as begun, and with no code wanted. -/
structure Commanded (s : State) : Prop where
  inv : Inv s
  begun : s.session ≠ .fresh
  noCode : s.port ≠ .wanted

section
variable {s : State}

theorem Commanded.unpacking (h : Commanded s) (hf : s.status.fault = false) (hc : s.contextLegal = true) :
    Unpacking s := ⟨h.inv, hf, hc, h.begun⟩

theorem Commanded.streaming (h : Commanded s) (hf : s.status.fault = false) (ho : s.status.opened = true) :
    Streaming s := ⟨h.unpacking hf (h.inv.openConsistent ho).context, ho⟩

/-- What OPEN leaves when every check passes: the header over the cleared units, then both initialisations. -/
theorem Commanded.openBody (h : Commanded s) (hf : s.status.fault = false) (ho : s.status.opened = false) {t : State}
    (ht : openBody s = .ok t) : Inv t := by
  obtain ⟨s', hparse, hinit⟩ := bind_eq_ok ht
  obtain ⟨hsize, n, c, r, l, b, rfl⟩ := parseHeader_ok hparse
  obtain ⟨hu, hd, rfl⟩ := initUnits_ok hinit
  have hheader := h.inv.clearInits_header hf ho h.noCode (pos := BitVec.ofNat 32 Config.HDR_BYTES) (fun _ => hsize)
    (fun hs => absurd hs h.begun) n n 0 c r l b 0
  have hbu := (hheader.unpackerReset hf hu).setUok_true hf (unpackerReset_legal hu)
  have hre := (hbu.setScr hf (Vector.replicate 16 0)).setDok_true hf hd
  exact hre.setOpened h.begun {
    noFault := hf
    dok := rfl
    context := unpackerReset_legal hu
    geometry := hd
    headerPresent := fun _ => hsize
    conserved := by simp
    readyInBlock := Nat.zero_le _
    cursorInBlock := Nat.zero_le _ }

theorem Commanded.execOpen (h : Commanded s) : Completes (execOpen s) := by
  unfold Machine.execOpen
  split
  · exact .next (h.inv.refuse _)
  split
  · exact .next (h.inv.refuse _)
  next hf ho =>
  split
  · next t ht => exact .next ((h.openBody (by simpa using hf) (by simpa using ho) ht).complete 1)
  · next e _ => exact .next (h.inv.raise h.noCode e)

theorem Commanded.execUinit (h : Commanded s) : Completes (execUinit s) := by
  unfold Machine.execUinit Machine.unpackerInit
  split
  · exact .next (h.inv.refuse _)
  · next hf =>
    have hf : s.status.fault = false := by simpa using hf
    split
    · next hg =>
      have hg : s.uGeomOK = true := (Bool.and_eq_true_iff.1 hg).1
      exact .next (((h.inv.unpackerReset hf hg).setUok_true hf (unpackerReset_legal hg)).complete _)
    · exact .next ((h.inv.setUok_false hf h.noCode).complete _)

theorem Commanded.execUreset (h : Commanded s) : Completes (execUreset s) := by
  unfold Machine.execUreset
  split
  · exact .next (h.inv.refuse _)
  split
  · exact .next (h.inv.refuse _)
  · next hf hu =>
    have hc := h.inv.unpackerReady (by simpa using hu)
    exact .next ((h.inv.unpackerReset (by simpa using hf) (uGeomOK_of_legal hc)).complete _)

theorem Commanded.execGetblk (h : Commanded s) : Completes (execGetblk s) := by
  unfold Machine.execGetblk
  split
  · exact .next (h.inv.refuse _)
  split
  · exact .next (h.inv.refuse _)
  next hf hu =>
  have hc := h.inv.unpackerReady (by simpa using hu)
  rw [if_neg (by simp [hc])]
  exact .next ((h.unpacking (by simpa using hf) hc).getOneBlock.inv.complete _)

/-- DINIT cannot fail under an open stream, whose geometry RE accepts. -/
theorem Commanded.execDinit (h : Commanded s) : Completes (execDinit s) := by
  unfold Machine.execDinit Machine.decoderInit
  split
  · exact .next (h.inv.refuse _)
  · next hf =>
    have hf : s.status.fault = false := by simpa using hf
    split
    · next hg => exact .next (((h.inv.setScr hf (Vector.replicate 16 0)).setDok_true hf hg).complete _)
    · next hg =>
      have ho : s.status.opened = false := by
        rw [← Bool.not_eq_true]
        exact fun ho => hg (h.inv.openConsistent ho).geometry
      exact .next ((h.inv.setDok_false hf ho).complete _)

theorem Commanded.execDecode (h : Commanded s) : Completes (execDecode s) := by
  unfold Machine.execDecode
  split
  · exact .next (h.inv.refuse _)
  split
  · exact .next (h.inv.refuse _)
  split
  · exact .next (h.inv.refuse _)
  next hf hd ha =>
  have hg := h.inv.decoderReady (by simpa using hd)
  obtain ⟨-, hfit⟩ := (decodeArgOK_iff s).1 (by simpa using ha)
  rw [if_neg (by simp [hg])]
  exact .next ((h.inv.decodeData (by simpa using hf) (by rwa [mul_comm])).complete _)

theorem Commanded.execRefill (h : Commanded s) : Completes (execRefill s) := by
  unfold Machine.execRefill
  split
  · exact .next (h.inv.refuse _)
  split
  · exact .next (h.inv.refuse _)
  split
  · exact .next (h.inv.refuse _)
  next hf ho _ =>
  have hs := h.streaming (by simpa using hf) (by simpa using ho)
  rw [if_neg (by simp [hs.consistent.context])]
  exact .next (hs.refill.1.unpacking.inv.complete _)

theorem Commanded.execRead (h : Commanded s) : Completes (execRead s) := by
  unfold Machine.execRead
  split
  · exact .next (h.inv.refuse _)
  split
  · exact .next (h.inv.refuse _)
  next hf ho =>
  have hs := h.streaming (by simpa using hf) (by simpa using ho)
  rw [if_neg (by simp [hs.consistent.context])]
  exact .next ((hs.readLoop _ _).unpacking.inv.complete _)

theorem Commanded.execRewind (h : Commanded s) : Completes (execRewind s) := by
  unfold Machine.execRewind
  split
  · exact .next (h.inv.refuse _)
  split
  · exact .next (h.inv.refuse _)
  next hf ho =>
  have ho : s.status.opened = true := by simpa using ho
  have hg := uGeomOK_of_legal (h.inv.openConsistent ho).context
  exact .next (((h.inv.rewound ho).unpackerReset (by simpa using hf) hg).complete _)

/-- Every command completes inside the invariant: a refusal by the block and a fatal error are next states too. -/
theorem Commanded.exec (h : Commanded s) {i : Instr} (hi : i ∈ commands) : Completes (exec i s) := by
  simp only [commands, List.mem_cons, List.not_mem_nil, or_false] at hi
  rcases hi with rfl | rfl | rfl | rfl | rfl | rfl | rfl | rfl | rfl | rfl | rfl
  · exact .next h.inv
  · exact h.execOpen
  · exact h.execUinit
  · exact h.execUreset
  · exact h.execGetblk
  · exact h.execDinit
  · exact h.execDecode
  · exact h.execRefill
  · exact h.execRead
  · exact h.execRewind
  · exact .next h.inv.resetBlock

/-- A code that BU wants: UOK stands, so the context is legal and there is no FAULT. -/
theorem Inv.stepCode (h : Inv s) (hp : s.port = .wanted) : Completes (stepCode s) := by
  have hu := h.portReady hp
  have hc := h.unpackerReady hu
  have hf : s.status.fault = false := by
    rw [← Bool.not_eq_true]
    intro hf
    obtain ⟨-, huok, -⟩ := (h.faultClean hf).flags
    exact absurd (huok.symm.trans hu) nofun
  rw [stepCode_eq_readCode hc]
  have hu' : Unpacking s.markLive := ⟨h.markLive, hf, hc, markLive_not_fresh s⟩
  exact .next (hu'.readCode.inv.deliver _)

theorem Inv.writeReg (h : Inv s) (hp : s.port ≠ .wanted) (r : Reg) (v : Word) : Inv (s.writeReg r v) := by
  cases r
  case arg0 => exact h.hostFields v s.arg1 s.result s.bufidx s.status.err s.actions s.readLog
  case arg1 => exact h.hostFields s.arg0 v s.result s.bufidx s.status.err s.actions s.readLog
  case bufidx => exact h.hostFields s.arg0 s.arg1 s.result (v.setWidth 20) s.status.err s.actions s.readLog
  case bufdata =>
    unfold State.writeReg
    dsimp only
    split
    · next hi => exact h.writeSlot hi v
    · exact h
  case levels | subblocks =>
    unfold State.writeReg
    dsimp only
    split
    · next hg =>
      obtain ⟨ho, hf⟩ := (geometryWritable_iff s).1 hg
      exact h.clearInits_geometry hf ho hp _ _
    · exact h
  all_goals exact h

/-- The two refusals by name that a step can answer (notes/assumptions/1.md, 5.md). -/
inductive NamedRefusal (s : State) (o : Out) : Prop where
  | changed (hs : s.session = .changed) (h : o = .refused .streamChangedWhileLive)
  | tooLong {bytes rest} (hs : s.actions = .attach bytes :: rest) (hb : 2 ^ 32 ≤ bytes.length)
      (h : o = .refused .streamTooLong)

theorem NamedRefusal.ne_next {o : Out} (h : NamedRefusal s o) (t : State) : o ≠ .next t := by
  obtain ⟨-, rfl⟩ | ⟨-, -, rfl⟩ := h <;> simp

theorem Inv.writeCmd (h : Inv s) (hp : s.port ≠ .wanted) (w : Word) :
    Completes (writeCmd w s) ∨ s.session = .changed ∧ writeCmd w s = .refused .streamChangedWhileLive := by
  unfold Machine.writeCmd
  split
  · next i hi =>
    unfold runCommand
    split
    · next hc => exact .inr ⟨hc.1, rfl⟩
    · have hcmd : Commanded s.markLive := ⟨h.markLive, markLive_not_fresh s, hp⟩
      exact .inl (hcmd.exec (mem_commands_of_decode hi))
  · exact .inl (.next (h.refuse _))

theorem Inv.hostWrite (h : Inv s) (hp : s.port ≠ .wanted) (offset width : Nat) (v : Word) :
    Completes (hostWrite offset width v s) ∨
      s.session = .changed ∧ hostWrite offset width v s = .refused .streamChangedWhileLive := by
  unfold Machine.hostWrite
  split
  · split
    · exact h.writeCmd hp v
    · exact .inl (.next (h.writeReg hp _ v))
    · exact .inl (.next h)
  · exact .inl (.next h)

/-- What a step from the invariant can answer. -/
theorem Inv.step (h : Inv s) : Completes (step s) ∨ NamedRefusal s (step s) := by
  by_cases hp : s.port = .wanted
  · left
    unfold Machine.step
    rw [hp]
    exact h.stepCode hp
  rcases ha : s.actions with _ | ⟨a, rest⟩
  · rw [step_wait hp ha]
    exact .inl (.next h)
  rw [step_host hp ha]
  have h' := h.popAction rest
  cases a with
  | read offset width => exact .inl (.next (h'.logRead _))
  | write offset width v =>
    rcases h'.hostWrite hp offset width v with hc | ⟨hs, hr⟩
    · exact .inl hc
    · exact .inr (.changed hs hr)
  | attach bytes =>
    change Completes (Machine.attach bytes _) ∨ NamedRefusal s (Machine.attach bytes _)
    unfold Machine.attach
    split
    · next hb => exact .inl (.next (h'.attachStream hb))
    · next hb => exact .inr (.tooLong ha (by omega) rfl)
  | hardwareReset => exact .inl (.next h'.resetBlock)

/-- Settles O27. -/
theorem resetHasTheInvariant : Obligations.ResetHasTheInvariant := inv_reset

/-- Settles O28: by what a step from the invariant can answer, each action's effect a composition of the updates. -/
theorem stepKeepsTheInvariant : Obligations.StepKeepsTheInvariant := by
  intro s t h ht
  rcases h.step with ⟨t', ht', hinv⟩ | hr
  · cases ht.symm.trans ht'
    exact hinv
  · exact absurd ht (hr.ne_next t)

/-- Settles O29: both refusals by name are excluded by hypothesis. -/
theorem noStepStops : Obligations.NoStepStops := by
  intro s h hs hattach
  rcases h.step with ⟨t, ht, -⟩ | ⟨hc, -⟩ | ⟨ha, hb, -⟩
  · exact ⟨t, ht⟩
  · exact absurd hc hs
  · exact absurd (hattach _ _ ha) (by omega)

end

end Sys2Proof.Safety

/-! ## OPENED implies UOK, but for the host's UINIT (spec/10_state.md R40(e), notes/assumptions/10.md) -/

namespace Sys2Proof.Safety

open Sys2Proof Sys2Proof.Machine

/-- A next state that a meaning answers has UOK where it is open. -/
def NextHasUok (o : Out) : Prop := ∀ t, o = .next t → OpenHasUok t

theorem NextHasUok.next {t : State} (h : OpenHasUok t) : NextHasUok (.next t) := fun _ ht => by cases ht; exact h

theorem NextHasUok.fault {r : Fault} : NextHasUok (.fault r) := fun _ ht => by cases ht

theorem NextHasUok.refused {r : Refusal} : NextHasUok (.refused r) := fun _ ht => by cases ht

section
variable {s : State}

theorem OpenHasUok.of_closed (h : s.status.opened = false) : OpenHasUok s := fun ho => absurd (h.symm.trans ho) nofun

theorem OpenHasUok.readCode (h : OpenHasUok s) : OpenHasUok (readCode s).2 := by
  obtain ⟨p, b, c, x, l, hf⟩ := readCode_frame s
  rw [hf]
  exact h

theorem OpenHasUok.getOneBlock (h : OpenHasUok s) : OpenHasUok (getOneBlock s).2 := by
  obtain ⟨p, b, c, x, l, m, f, k, hf⟩ := getOneBlock_frame s
  rw [hf]
  exact h

theorem OpenHasUok.decodeData (h : OpenHasUok s) (S : Nat) : OpenHasUok (decodeData S s) := by
  obtain ⟨m, x, hf⟩ := decodeData_frame S s
  rw [hf]
  exact h

theorem OpenHasUok.refill (h : OpenHasUok s) : OpenHasUok (refill s).2 := by
  obtain ⟨p, b, c, x, l, m, f, k, y, r, e, d, hf⟩ := refill_frame s
  rw [hf]
  exact h

theorem OpenHasUok.readLoop (h : OpenHasUok s) (n q : Nat) : OpenHasUok (readLoop n q s).2 := by
  obtain ⟨p, b, c, x, l, m, f, k, y, r, e, d, o, hf⟩ := readLoop_frame n q s
  rw [hf]
  exact h

/-- OPEN sets OPENED only after BU's initialisation has set UOK. -/
theorem OpenHasUok.execOpen (h : OpenHasUok s) : NextHasUok (execOpen s) := by
  unfold Machine.execOpen
  split
  · exact .next h
  split
  · exact .next h
  split
  · next t ht =>
    obtain ⟨s', -, hinit⟩ := bind_eq_ok ht
    obtain ⟨-, -, rfl⟩ := initUnits_ok hinit
    exact .next fun _ => rfl
  · exact .next (.of_closed rfl)

theorem OpenHasUok.execUreset (h : OpenHasUok s) : NextHasUok (execUreset s) := by
  unfold Machine.execUreset
  split_ifs <;> exact .next h

theorem OpenHasUok.execGetblk (h : OpenHasUok s) : NextHasUok (execGetblk s) := by
  unfold Machine.execGetblk
  split_ifs
  · exact .next h
  · exact .next h
  · exact .fault
  · exact .next h.getOneBlock

theorem OpenHasUok.execDinit (h : OpenHasUok s) : NextHasUok (execDinit s) := by
  unfold Machine.execDinit Machine.decoderInit
  split_ifs <;> exact .next h

theorem OpenHasUok.execDecode (h : OpenHasUok s) : NextHasUok (execDecode s) := by
  unfold Machine.execDecode
  split_ifs
  · exact .next h
  · exact .next h
  · exact .next h
  · exact .fault
  · exact .next (h.decodeData _)

theorem OpenHasUok.execRefill (h : OpenHasUok s) : NextHasUok (execRefill s) := by
  unfold Machine.execRefill
  split_ifs
  · exact .next h
  · exact .next h
  · exact .next h
  · exact .fault
  · exact .next h.refill

theorem OpenHasUok.execRead (h : OpenHasUok s) : NextHasUok (execRead s) := by
  unfold Machine.execRead
  split_ifs
  · exact .next h
  · exact .next h
  · exact .fault
  · exact .next (h.readLoop _ _)

theorem OpenHasUok.execRewind (h : OpenHasUok s) : NextHasUok (execRewind s) := by
  unfold Machine.execRewind
  split_ifs <;> exact .next h

theorem OpenHasUok.exec (h : OpenHasUok s) {i : Instr} (hi : i ∈ commands) (hne : i ≠ .uinit) :
    NextHasUok (exec i s) := by
  simp only [commands, List.mem_cons, List.not_mem_nil, or_false] at hi
  rcases hi with rfl | rfl | rfl | rfl | rfl | rfl | rfl | rfl | rfl | rfl | rfl
  · exact .next h
  · exact h.execOpen
  · exact absurd rfl hne
  · exact h.execUreset
  · exact h.execGetblk
  · exact h.execDinit
  · exact h.execDecode
  · exact h.execRefill
  · exact h.execRead
  · exact h.execRewind
  · exact .next (.of_closed rfl)

theorem OpenHasUok.stepCode (h : OpenHasUok s) : NextHasUok (stepCode s) := by
  by_cases hc : s.contextLegal = true
  · rw [stepCode_eq_readCode hc]
    exact .next (OpenHasUok.readCode (s := s.markLive) h)
  · unfold Machine.stepCode
    rw [if_neg hc]
    exact .fault

theorem OpenHasUok.writeCmd (h : OpenHasUok s) {w : Word} (hw : w ≠ 2) : NextHasUok (writeCmd w s) := by
  unfold Machine.writeCmd
  split
  · next i hi =>
    have hne : i ≠ .uinit := fun e => hw (word_of_decode_uinit (e ▸ hi))
    unfold runCommand
    split
    · exact .refused
    · exact OpenHasUok.exec (s := s.markLive) h (mem_commands_of_decode hi) hne
  · exact .next h

/-- A geometry write, which clears UOK, is performed only while no stream is open. -/
theorem OpenHasUok.writeReg (h : OpenHasUok s) (r : Reg) (v : Word) : OpenHasUok (s.writeReg r v) := by
  cases r
  case levels | subblocks =>
    unfold State.writeReg
    dsimp only
    split
    · next hg => exact .of_closed ((geometryWritable_iff s).1 hg).1
    · exact h
  case bufdata =>
    unfold State.writeReg
    dsimp only
    split <;> exact h
  all_goals exact h

theorem OpenHasUok.hostWrite (h : OpenHasUok s) {offset width : Nat} {v : Word}
    (hne : ¬(offset = 0 ∧ width = 32 ∧ v = 2)) : NextHasUok (hostWrite offset width v s) := by
  unfold Machine.hostWrite
  split
  · next hacc =>
    have hwidth : width = 32 := by
      simp only [accessPerformed, Bool.and_eq_true, beq_iff_eq] at hacc
      exact hacc.1
    split
    · next hreg => exact h.writeCmd fun hv => hne ⟨regAt_eq_cmd hreg, hwidth, hv⟩
    · exact .next (h.writeReg _ v)
    · exact .next h
  · exact .next h

theorem OpenHasUok.perform (h : OpenHasUok s) {a : HostAction} (hne : a ≠ .write 0 32 2) :
    NextHasUok (perform a s) := by
  cases a with
  | read offset width => exact .next h
  | write offset width v => exact h.hostWrite fun ⟨ho, hw, hv⟩ => hne (by rw [ho, hw, hv])
  | attach bytes =>
    unfold Machine.perform attach
    dsimp only
    split
    · exact .next h
    · exact .refused
  | hardwareReset => exact .next (.of_closed rfl)

/-- Settles O59: by cases of what the step performs, UINIT's word being the one that is excluded. -/
theorem openKeepsUokUnlessUinit : Obligations.OpenKeepsUokUnlessUinit := by
  refine ⟨.of_closed rfl, fun s t h hne => ?_⟩
  by_cases hp : s.port = .wanted
  · have hcode : step s = stepCode s := by
      unfold step
      rw [hp]
    exact hcode ▸ h.stepCode t
  rcases ha : s.actions with _ | ⟨a, rest⟩
  · exact step_wait hp ha ▸ NextHasUok.next h t
  · rw [step_host hp ha]
    exact OpenHasUok.perform (s := s.popAction rest) h (fun e => hne rest (e ▸ ha)) t

end

end Sys2Proof.Safety

/-! ## BU's level pointer, the states R40 excludes, reset, STATUS's word, the register space, the command step -/

namespace Sys2Proof.Machine

open Sys2Proof Sys2Proof.Safety Sys2Proof.Claims

theorem advanceLevel_lvlptr_toNat (s : State) (h : s.contextLegal = true) :
    s.advanceLevel.lvlptr.toNat = (s.lvlptr.toNat + 1) % s.levels.toNat := by
  obtain ⟨⟨h1, h16, -⟩, -⟩ := (contextLegal_iff s).1 h
  have hlt : (s.lvlptr.toNat + 1) % s.levels.toNat < s.levels.toNat := Nat.mod_lt _ h1
  rw [State.advanceLevel_lvlptr, BitVec.toNat_ofNat]
  exact Nat.mod_eq_of_lt (by omega)

/-- A branch of ReadCode that yields a value moves to the next level. -/
theorem classify_lvlptr {w : Nat} (u : BitVec w) {s : State} (h : s.contextLegal = true) {v : Int}
    (hv : (classify u s).1 = .ok v) : (classify u s).2.lvlptr.toNat = (s.lvlptr.toNat + 1) % s.levels.toNat := by
  unfold classify at hv ⊢
  split_ifs at hv ⊢
  · cases hv
  · exact advanceLevel_lvlptr_toNat s h
  · exact advanceLevel_lvlptr_toNat s h
  · exact advanceLevel_lvlptr_toNat s h

/-- A code that yields a value moves to the next level (spec/10_state.md R34). -/
theorem readCode_lvlptr {s t : State} (h : s.contextLegal = true) {v : Int} (hr : readCode s = (.ok v, t)) :
    t.lvlptr.toNat = (s.lvlptr.toNat + 1) % s.levels.toNat := by
  obtain ⟨p, b, c, hframe⟩ := fetchBits_frame (s.ctxWidth s.lvlptr.toNat) s
  rcases hf : fetchBits (s.ctxWidth s.lvlptr.toNat) s with ⟨_ | u, s'⟩ <;> rw [hf] at hframe
  · rw [readCode_of_none hf] at hr
    cases hr
  · simp only at hframe
    subst hframe
    rw [readCode_of_some hf] at hr
    have := classify_lvlptr u (s := { s with pos := p, bitbuf := b, bitcnt := c }) h (v := v) (by rw [hr])
    rwa [hr] at this

/-- A block of `n` codes read without a failure moves the level pointer by `n`. -/
theorem fillBlock_lvlptr (n j : Nat) {s : State} (h : s.contextLegal = true) (hok : (fillBlock n j s).1 = true) :
    (fillBlock n j s).2.lvlptr.toNat = (s.lvlptr.toNat + n) % s.levels.toNat := by
  induction n generalizing j s with
  | zero =>
    obtain ⟨-, hl, -⟩ := (contextLegal_iff s).1 h
    exact (Nat.mod_eq_of_lt hl).symm
  | succ n ih =>
    have hlegal := readCode_legal s h
    obtain ⟨p, b, c, x, l, hframe⟩ := readCode_frame s
    rw [fillBlock] at hok ⊢
    rcases hr : readCode s with ⟨v | _ | _, s'⟩ <;> rw [hr] at hok hlegal hframe <;> dsimp only at hok hlegal hframe ⊢
    · have hlevels : s'.levels = s.levels := by rw [hframe]
      have hwritten : (s'.writeSlot j (slotOfValue v)).contextLegal = true := hlegal
      rw [ih (j + 1) hwritten hok, State.writeSlot_lvlptr, State.writeSlot_levels, readCode_lvlptr h hr, hlevels,
        Nat.mod_add_mod]
      congr 1
      omega
    · cases hok
    · cases hok

/-- Settles O40: each code of the block moves the pointer by one. -/
theorem getblkCarriesTheLevelPointer : Obligations.GetblkCarriesTheLevelPointer := by
  intro s hf hu hfail hc
  refine ⟨(getOneBlock s).2.complete (boolWord (getOneBlock s).1), ?_, fun hr => ?_⟩
  · change execGetblk s = _
    simp [execGetblk, hf, hu, hc]
  · have hblock : getOneBlock s = fillBlock s.subblocks.toNat 0 s := by simp [getOneBlock, hfail]
    rw [State.complete_lvlptr, hblock]
    rw [State.complete_result, hblock] at hr
    exact fillBlock_lvlptr _ _ hc (boolWord_eq_one hr)

/-- Only the reserved pattern is of class RSV. -/
theorem classOfField_ne_rsv {w u : Nat} (h : u ≠ 2 ^ (w - 1)) : classOfField w u ≠ .rsv := by
  simp only [classOfField, if_neg h]
  split_ifs <;> simp

/-- Over a context R40(c) excludes, no class but RSV has an effect. -/
theorem runClass_illegal {w : Nat} (u : BitVec w) {s : State} {c : CodeClass} (hs : s.contextLegal = false)
    (hc : c ≠ .rsv) : runClass u s c = .fault .illegalContext := by
  cases c
  case rsv => contradiction
  all_goals simp [runClass, runCode, hs]

/-- Settles O26: the checks that stand before the stop are passed one by one. -/
theorem excludedStatesStop : Obligations.ExcludedStatesStop := by
  intro s hf
  refine ⟨fun hc => ⟨fun hp => ?_, fun w u i hi hu => ?_, fun hu hfail => ?_, fun ho hfail hleft => ⟨?_, ?_⟩⟩, ?_⟩
  · simp [step, hp, stepCode, hc]
  · obtain ⟨-, hrow⟩ := decode_code_iff.1 hi
    rw [exec_codeRow hrow]
    exact runClass_illegal _ hc (classOfField_ne_rsv hu)
  · change execGetblk s = _
    simp [execGetblk, hf, hu, hfail, hc]
  · intro hready
    have hdue : ¬s.samplesLeft = 0#32 := hleft
    change execRefill s = _
    simp [execRefill, hf, ho, hready, hdue, hfail, hc]
  · intro hready
    have hcodes : s.readNeedsCodes = true := by simpa [State.readNeedsCodes, hready, hfail] using hleft
    change execRead s = _
    simp [execRead, hf, ho, hcodes, hc]
  · intro hg hd h1 hfit
    have harg := (decodeArgOK_iff s).2 ⟨h1, hfit⟩
    change execDecode s = _
    simp [execDecode, hf, hd, harg, hg]

/-- R39's values, whatever stands on the host's side. -/
theorem resetValues_hostSide (stream : List Byte) (out : Memory Sample) (epoch : Nat) (actions : List HostAction)
    (readLog : List Word) :
    ResetValues { State.reset with
      stream := stream, out := out, bufEpoch := epoch, actions := actions, readLog := readLog } where
  status := ⟨rfl, (by decide : Status.reset.word = 0)⟩
  operands := ⟨rfl, rfl, rfl⟩
  header := ⟨rfl, rfl, rfl, rfl, rfl, rfl⟩
  cursor := ⟨rfl, rfl, rfl, rfl⟩
  unpacker := ⟨rfl, rfl, rfl⟩
  context := fun i => by simp [State.reset]
  scratch := fun i => by simp [State.reset]
  bufidx := rfl
  buffer := fun _ => rfl

theorem resetValues_resetBlock (s : State) : ResetValues s.resetBlock :=
  resetValues_hostSide s.stream s.out (s.bufEpoch + 1) s.actions s.readLog

/-- Settles O18. -/
theorem resetLeavesResetValues : Obligations.ResetLeavesResetValues := by
  refine ⟨resetValues_hostSide [] [] 0 [] [], fun s rest hp ha => ?_, fun s => ?_⟩
  · exact ⟨(s.popAction rest).resetBlock, step_host hp ha, resetValues_resetBlock _⟩
  · exact ⟨s.resetBlock, rfl, resetValues_resetBlock s⟩

/-- The number an appended word stands for. -/
theorem toNat_append_eq {m n : Nat} (x : BitVec m) (y : BitVec n) : (x ++ y).toNat = 2 ^ n * x.toNat + y.toNat := by
  rw [BitVec.toNat_append, Nat.shiftLeft_eq, mul_comm, ← Nat.two_pow_add_eq_or_of_lt y.isLt]

/-- STATUS's word, by the codes of its fields. -/
theorem statusWord_toNat (t : Status) : t.word.toNat = t.opened.toNat + 2 * t.uok.toNat + 4 * t.dok.toNat +
    8 * t.ufail.toNat + 16 * t.cause.bits.toNat + 64 * t.fault.toNat + 256 * t.err.bits.toNat +
    4096 * t.fcode.bits.toNat + 65536 * t.fsub.bits.toNat := by
  unfold Status.word
  simp only [toNat_append_eq, BitVec.toNat_ofBool, BitVec.toNat_zero]
  omega

/-- Settles O17: the word's fields by place, then each field's codes. -/
theorem statusWordLayout : Obligations.StatusWordLayout := by
  intro t
  rw [statusWord_toNat]
  congr
  · cases t.cause <;> rfl
  · cases t.err <;> rfl
  · cases t.fcode <;> rfl
  · cases t.fsub <;> rfl

theorem regValue_ctx (s : State) (i : Fin 16) : s.regValue (.ctx i) = (s.ctx[i]).setWidth 32 := by
  simp [State.regValue, State.ctxWidth, BitVec.ofNat_toNat]

theorem regValue_scr (s : State) (i : Fin 16) : s.regValue (.scr i) = s.scr[i] := by
  simp [State.regValue, State.readScr]

theorem regValue_blocksize (s : State) : s.regValue .blocksize =
    if 1 ≤ s.levels.toNat ∧ s.levels.toNat ≤ 16 ∧ 1 ≤ s.subblocks.toNat ∧
        2 ^ s.levels.toNat * s.subblocks.toNat ≤ 983040
      then BitVec.ofNat 32 (2 ^ s.levels.toNat * s.subblocks.toNat) else 0 := by
  change (if s.dGeomOK = true then BitVec.ofNat 32 s.blockSize else 0) = _
  simp only [State.dGeomOK_iff]
  rfl

/-- Settles O12. -/
theorem registerMapReads : Obligations.RegisterMapReads := by
  intro s
  refine ⟨rfl, rfl, rfl, rfl, rfl, rfl, rfl, rfl, rfl, rfl, ?_, rfl, rfl, rfl, rfl, rfl, rfl, rfl, rfl, rfl, rfl,
    fun i => ?_, fun i => ?_⟩
  · exact (readReg_of_regAt s rfl rfl).trans (regValue_blocksize s)
  · exact (readReg_of_regAt s (by omega) (regAt_ctx i)).trans (regValue_ctx s i)
  · exact (readReg_of_regAt s (by omega) (regAt_scr i)).trans (regValue_scr s i)

/-- Settles O13. -/
theorem hostWritesOperandsAndWindow : Obligations.HostWritesOperandsAndWindow := by
  intro s offset v rest hp ha
  refine ⟨?_, ?_, ?_, ?_, ?_, ?_⟩
  · rintro rfl
    exact step_writeReg hp ha rfl rfl (by decide)
  · rintro rfl
    exact step_writeReg hp ha rfl rfl (by decide)
  · rintro rfl
    exact step_writeReg hp ha rfl rfl (by decide)
  · rintro rfl hi
    refine ⟨(s.popAction rest).writeSlot s.bufidx.toNat v, ?_, rfl, State.readSlot_writeSlot_same _ _ _,
      fun i hne => State.readSlot_writeSlot_other (s.popAction rest) v hne⟩
    rw [step_writeReg hp ha rfl rfl (by decide)]
    exact congrArg _ (if_pos hi)
  · rintro rfl hi
    rw [step_writeReg hp ha rfl rfl (by decide)]
    exact congrArg _ (if_neg (by simp; omega))
  · intro hread
    obtain ⟨h4, r, hr, hro⟩ := regAt_readOnly hread
    rw [step_writeReg hp ha h4 hr (fun e => hro (e ▸ by decide)), writeReg_readOnly _ v hro]
    rfl

/-- Settles O8. -/
theorem stepRunsDecodedCommand : Obligations.StepRunsDecodedCommand := by
  intro s rest w i hp ha hi hs
  have hsafe : ¬((s.popAction rest).session = .changed ∧ (!safeOnChangedStream i) = true) := by
    rintro ⟨hc, hnot⟩
    rcases hs hc with rfl | rfl <;> exact absurd hnot (by decide)
  rw [step_host hp ha]
  change writeCmd w (s.popAction rest) = _
  unfold writeCmd
  rw [hi]
  dsimp only
  unfold runCommand
  rw [if_neg hsafe, State.markLive_eq]
  rfl

end Sys2Proof.Machine

/-! ## Attaching a stream -/

namespace Sys2Proof.Machine

open Sys2Proof Sys2Proof.Safety Sys2Proof.Claims

/-- The attach as one record update: only an instance with no command run yet stays fresh (spec/20_memory.md R55). -/
theorem State.attachStream_eq (s : State) (bytes : List Byte) :
    s.attachStream bytes =
      { s with stream := bytes, session := if s.session = .fresh then .fresh else .changed } := by
  unfold State.attachStream
  cases s.session <;> rfl

theorem attach_of_lt {bytes : List Byte} (h : bytes.length < 2 ^ 32) (s : State) :
    attach bytes s = .next (s.attachStream bytes) := if_pos h

/-- SIZE cannot say the length of such a stream (spec/10_state.md R30). -/
theorem attach_of_le {bytes : List Byte} (h : 2 ^ 32 ≤ bytes.length) (s : State) :
    attach bytes s = .refused .streamTooLong := if_neg (Nat.not_lt.2 h)

theorem step_attach {s : State} {bytes : List Byte} {rest : List HostAction} (hp : s.port ≠ .wanted)
    (ha : s.actions = .attach bytes :: rest) : step s = attach bytes (s.popAction rest) := step_host hp ha

/-- Settles O25: the step is the attach of the popped state, whose length test decides between the two clauses. -/
theorem attachReplacesTheStream : Obligations.AttachReplacesTheStream := by
  intro s bytes rest hp ha
  rw [step_attach hp ha]
  refine ⟨fun hlt => ?_, fun hle => attach_of_le hle _⟩
  rw [attach_of_lt hlt, State.attachStream_eq]
  rfl

end Sys2Proof.Machine

/-! ## The decoder and the encoder: commands by word, codes by row, the four classes of a field
(spec/30_encoding.md R76, R77, R80, R82, R88) -/

namespace Sys2Proof

/-- A field meets the condition by which WellFormed.lean gives a class (R82). -/
def fieldMeets {w : Nat} (u : BitVec w) : CodeClass → Bool
  | .grow => growField u
  | .hold => holdField u
  | .shrink => shrinkField u
  | .rsv => isReserved u

/-- A field meets the condition of exactly one class: the one the decoder finds by ranges. -/
theorem fieldMeets_eq_decide {w : Nat} (u : BitVec w) (h2 : 2 ≤ w) (c : CodeClass) :
    fieldMeets u c = decide (classOfField w u.toNat = c) := by
  obtain ⟨hr, hg, hh, hs⟩ := classOfField_iff u h2
  rw [Bool.eq_iff_iff, decide_eq_true_iff]
  cases c
  exacts [hg.symm, hh.symm, hs.symm, hr.symm]

end Sys2Proof

namespace Sys2Proof.Machine

open Sys2Proof

/-- Settles O5: each condition says that its class is the one class the decoder finds. -/
theorem codeClassesPartition : Obligations.CodeClassesPartition := by
  intro w u h2 _
  have hclass := fieldMeets_eq_decide u h2
  rw [show isReserved u = _ from hclass .rsv, show growField u = _ from hclass .grow,
    show holdField u = _ from hclass .hold, show shrinkField u = _ from hclass .shrink]
  refine ⟨?_, ?_, ?_⟩
  · cases classOfField w u.toNat <;> rfl
  · cases classOfField w u.toNat <;> rfl
  · rintro rfl
    exact decide_eq_false (classOfField_two_ne_shrink _)

/-- A word is legal if and only if it is one of R76's words. -/
theorem decode_command_isOk_iff (w : Word) :
    (∃ i, decode (.command w) = .ok i) ↔ w.toNat ≤ 0x09 ∨ w.toNat = 0x0F := by
  change (∃ i, decodeCommand w = .ok i) ↔ _
  unfold decodeCommand
  split
  case h_12 =>
    refine ⟨nofun, fun h => ?_⟩
    exfalso
    simp only [imp_false] at *
    omega
  all_goals exact ⟨fun _ => by omega, fun _ => ⟨_, rfl⟩⟩

theorem writeCmd_of_illegal {w : Word} (h : ¬∃ i, decode (.command w) = .ok i) (s : State) :
    writeCmd w s = .next (s.refuse .illegalCmd) := by
  unfold writeCmd
  split
  · next i hi => exact absurd ⟨i, hi⟩ h
  · rfl

/-- Settles O4: R77's condition on the word's fields is the one on the whole word. -/
theorem illegalWordsAreRefused : Obligations.IllegalWordsAreRefused := by
  intro s w rest
  have hlegal := decode_command_isOk_iff w
  refine ⟨fun hw hp ha => ?_, fun hw => hlegal.2 (by omega)⟩
  rw [step_host hp ha]
  exact writeCmd_of_illegal (fun hok => by have := hlegal.1 hok; omega) _

/-- A field decodes to its class's row, with the field as that row's operand. -/
theorem decode_field {w : Nat} {u : BitVec w} {c : CodeClass} {row : BitVec w → Instr} (h2 : 2 ≤ w) (h16 : w ≤ 16)
    (hrow : ∀ n, codeRow w n c = .ok (row (BitVec.ofNat w n))) (hu : fieldMeets u c = true) :
    decode (.code w u.toNat) = .ok (row u) := by
  have hclass : classOfField w u.toNat = c := by simpa [fieldMeets_eq_decide u h2] using hu
  rw [decode_code_iff, hclass, hrow, BitVec.ofNat_toNat, BitVec.setWidth_eq]
  exact ⟨⟨h2, h16, u.isLt⟩, rfl⟩

/-- Settles O1: a command's word is compared whole; a code's class, the one its field is checked for, chooses its row. -/
theorem encodeThenDecode : Obligations.EncodeThenDecode := by
  intro i hwf
  cases i with
  | nop | openStream | uinit | ureset | getblk | dinit | decode | refill | read | rewind | srst | codeEos => rfl
  | codeGrowW2 u | codeGrowW3 u | codeGrowW4 u | codeGrowW5 u | codeGrowW6 u | codeGrowW7 u | codeGrowW8 u
  | codeGrowW9 u | codeGrowW10 u | codeGrowW11 u | codeGrowW12 u | codeGrowW13 u | codeGrowW14 u | codeGrowW15 u
  | codeGrowW16 u => exact decode_field (c := .grow) (by decide) (by decide) (fun _ => rfl) hwf
  | codeHoldW2 u | codeHoldW3 u | codeHoldW4 u | codeHoldW5 u | codeHoldW6 u | codeHoldW7 u | codeHoldW8 u
  | codeHoldW9 u | codeHoldW10 u | codeHoldW11 u | codeHoldW12 u | codeHoldW13 u | codeHoldW14 u | codeHoldW15 u
  | codeHoldW16 u => exact decode_field (c := .hold) (by decide) (by decide) (fun _ => rfl) hwf
  | codeShrinkW3 u | codeShrinkW4 u | codeShrinkW5 u | codeShrinkW6 u | codeShrinkW7 u | codeShrinkW8 u
  | codeShrinkW9 u | codeShrinkW10 u | codeShrinkW11 u | codeShrinkW12 u | codeShrinkW13 u | codeShrinkW14 u
  | codeShrinkW15 u | codeShrinkW16 u =>
    exact decode_field (c := .shrink) (by decide) (by decide) (fun _ => rfl) hwf
  | codeRsvW2 | codeRsvW3 | codeRsvW4 | codeRsvW5 | codeRsvW6 | codeRsvW7 | codeRsvW8 | codeRsvW9 | codeRsvW10
  | codeRsvW11 | codeRsvW12 | codeRsvW13 | codeRsvW14 | codeRsvW15 | codeRsvW16 => rfl

/-- A row's bits are its field, RSV's the one pattern of its width; the check on its operand is its class's condition, and
RSV has no operand. -/
theorem codeRow_encoding {w u : Nat} {c : CodeClass} {i : Instr} (h : codeRow w u c = .ok i) :
    encode i = .code w (if c = .rsv then 2 ^ (w - 1) else u % 2 ^ w) ∧
    i.wf = (c == .rsv || fieldMeets (BitVec.ofNat w u) c) := by
  cases c
  all_goals
    unfold codeRow at h
    dsimp only at h
    split at h
    all_goals cases h
  all_goals exact ⟨rfl, rfl⟩

theorem encode_of_decode_command {w : Word} {i : Instr} (h : decode (.command w) = .ok i) :
    encode i = .command w ∧ i.wf = true := by
  change decodeCommand w = .ok i at h
  unfold decodeCommand at h
  split at h <;> cases h
  all_goals next hw => exact ⟨congrArg Encoding.command (BitVec.eq_of_toNat_eq hw.symm), rfl⟩

theorem encode_of_decode_code {w u : Nat} {i : Instr} (h : decode (.code w u) = .ok i) :
    encode i = .code w u ∧ i.wf = true := by
  obtain ⟨⟨h2, -, hu⟩, hrow⟩ := decode_code_iff.1 h
  obtain ⟨hencode, hwf⟩ := codeRow_encoding hrow
  have hmod : u % 2 ^ w = u := Nat.mod_eq_of_lt hu
  constructor
  · rw [hencode]
    split
    · next hrsv =>
      have hu : u = 2 ^ (w - 1) := by_contra fun hne => classOfField_ne_rsv hne hrsv
      rw [hu]
    · rw [hmod]
  · rw [hwf, fieldMeets_eq_decide _ h2, BitVec.toNat_ofNat, hmod, decide_eq_true rfl, Bool.or_true]

/-- Settles O2, by the form of the encoding. -/
theorem decodeThenEncode : Obligations.DecodeThenEncode := by
  intro e i h
  cases e with
  | command w => exact encode_of_decode_command h
  | code w u => exact encode_of_decode_code h
  | endOfStream =>
    cases h
    exact ⟨rfl, rfl⟩

/-- Settles O6: the row is the branch by R116, and well formed because the decoder accepts it. -/
theorem decodedRowIsReadCodesBranch : Obligations.DecodedRowIsReadCodesBranch := by
  intro w u s h2 h16 hc
  obtain ⟨i, hi, hexec⟩ := decode_code_classify u h2 h16 hc
  obtain ⟨-, hwf⟩ := decodeThenEncode _ _ hi
  exact ⟨i, hi, hwf, hexec⟩

/-- Over a legal context what BU fetches always decodes: a missing bit to CODE.EOS, a field to its row. -/
theorem decode_fetchCode_isOk {s : State} (hc : s.contextLegal = true) :
    ∃ i, decode (fetchCode s).1 = .ok i := by
  obtain ⟨h2, h16⟩ := nextWidth_legal hc
  rcases hf : fetchBits (s.ctxWidth s.lvlptr.toNat) s with ⟨_ | u, s'⟩
  · rw [fetchCode_of_none hf]
    exact ⟨.codeEos, rfl⟩
  · rw [fetchCode_of_some hf]
    obtain ⟨i, hi, -⟩ := decode_code_classify u h2 h16 hc
    exact ⟨i, hi⟩

/-- The fetch of a code does not touch the model's note of the session. -/
theorem fetchCode_session (s : State) : (fetchCode s).2.session = s.session := by
  have hfetch : (fetchCode s).2 = (fetchBits (s.ctxWidth s.lvlptr.toNat) s).2 := by
    unfold fetchCode
    split <;> next hf => rw [hf]
  obtain ⟨p, b, c, hframe⟩ := fetchBits_frame (s.ctxWidth s.lvlptr.toNat) s
  rw [hfetch, hframe]

theorem stepCode_of_decode {s : State} {i : Instr} (hc : s.contextLegal = true)
    (hi : decode (fetchCode s).1 = .ok i) : stepCode s = exec i (fetchCode s).2.markLive := by
  unfold stepCode
  rw [if_pos hc, hi]

/-- Settles O9: the fetch over a legal context decodes, and it leaves the session to be noted as it was. -/
theorem stepRunsDecodedCode : Obligations.StepRunsDecodedCode := by
  intro s hp hc
  obtain ⟨i, hi⟩ := decode_fetchCode_isOk hc
  obtain ⟨-, hwf⟩ := decodeThenEncode _ _ hi
  refine ⟨i, hi, hwf, ?_⟩
  have hstep : step s = stepCode s := by unfold step; rw [hp]
  rw [hstep, stepCode_of_decode hc hi, State.markLive_eq, fetchCode_session]

/-- Settles O3: the seven words are encodings of well-formed instructions. -/
theorem sampleWordsDecode : Obligations.SampleWordsDecode :=
  ⟨encodeThenDecode .openStream rfl, encodeThenDecode .srst rfl, encodeThenDecode (.codeGrowW4 5) rfl,
    encodeThenDecode (.codeHoldW4 14) rfl, encodeThenDecode (.codeShrinkW5 31) rfl, encodeThenDecode .codeRsvW4 rfl,
    encodeThenDecode .codeEos rfl⟩

/-! ### The header's bytes (R71, R72; spec/20_memory.md R52) -/

/-- A read answers the little-endian number of the bytes that stand at its address. -/
theorem memRead_of_drop {s : State} {a : Nat} {bytes after : List Byte} (hne : bytes ≠ [])
    (h : s.stream.drop a = bytes ++ after) : s.memRead a bytes.length = some (littleEndian bytes) := by
  have hlen : s.stream.length - a = bytes.length + after.length := by
    rw [← List.length_drop, h, List.length_append]
  have hpos : 0 < bytes.length := List.length_pos_iff.2 hne
  unfold State.memRead State.size
  rw [if_pos (by omega), h, List.take_left]

theorem memRead_two {s : State} {a : Nat} {b0 b1 : Byte} {after : List Byte}
    (h : s.stream.drop a = b0 :: b1 :: after) : s.memRead a 2 = some (b0.toNat + 2 ^ 8 * b1.toNat) :=
  memRead_of_drop (bytes := [b0, b1]) nofun h

theorem memRead_four {s : State} {a : Nat} {b0 b1 b2 b3 : Byte} {after : List Byte}
    (h : s.stream.drop a = b0 :: b1 :: b2 :: b3 :: after) :
    s.memRead a 4 = some (b0.toNat + 2 ^ 8 * b1.toNat + 2 ^ 16 * b2.toNat + 2 ^ 24 * b3.toNat) := by
  have hsum : littleEndian [b0, b1, b2, b3] =
      b0.toNat + 2 ^ 8 * b1.toNat + 2 ^ 16 * b2.toNat + 2 ^ 24 * b3.toNat := by
    simp only [littleEndian]
    omega
  rw [← hsum]
  exact memRead_of_drop (bytes := [b0, b1, b2, b3]) nofun h

/-- Settles O7: the header is five runs of bytes, and g splits at bit 4. -/
theorem headerFieldsFromBytes : Obligations.HeaderFieldsFromBytes := by
  intro s b payload h
  have hs : s.stream = b 0 :: b 1 :: b 2 :: b 3 :: b 4 :: b 5 :: b 6 :: b 7 :: b 8 :: b 9 :: b 10 :: b 11 :: b 12 ::
      b 13 :: payload := by simpa [List.ofFn_succ] using h
  have h12 := (b 12).isLt
  have h13 := (b 13).isLt
  refine ⟨⟨memRead_four hs, memRead_four (congrArg (List.drop 4) hs), memRead_two (congrArg (List.drop 8) hs),
    memRead_two (congrArg (List.drop 10) hs), memRead_two (congrArg (List.drop 12) hs)⟩, ?_, ?_⟩
  · simp only [geometrySubblocks, BitVec.toNat_ofNat]
    omega
  · simp only [geometryLevels, BitVec.toNat_ofNat]
    omega

end Sys2Proof.Machine

/-! ## OPEN: the header's parse, both units' initialisation, the errors in the order of the checks
(spec/40_header_open.md R100, R104) -/

namespace Sys2Proof.Machine

open Sys2Proof Sys2Proof.Claims

/-! ### The values a read of the stream can have -/

theorem littleEndian_lt (bytes : List Byte) : littleEndian bytes < 256 ^ bytes.length := by
  induction bytes with
  | nil => decide
  | cons b bs ih =>
    have hb : b.toNat < 256 := b.isLt
    simp only [littleEndian, List.length_cons, pow_succ]
    omega

theorem State.size_of_memRead {s : State} {a n v : Nat} (h : s.memRead a n = some v) : a + n ≤ s.size :=
  (s.memRead_isSome a n).1 (by rw [h]; rfl)

/-- A read of `n` bytes answers a number of `n` bytes. -/
theorem State.memRead_lt {s : State} {a n v : Nat} (h : s.memRead a n = some v) : v < 256 ^ n := by
  have hin : a + n ≤ s.stream.length := State.size_of_memRead h
  unfold State.memRead State.size at h
  rw [if_pos hin] at h
  cases h
  have hlen : ((s.stream.drop a).take n).length = n := by
    rw [List.length_take, List.length_drop]
    omega
  exact (littleEndian_lt _).trans_eq (by rw [hlen])

/-! ### The parse -/

/-- What OPEN's parse leaves of a whole header: the fields in their registers, the counters, the cursor at the payload. -/
def parsedState (s : State) (n c r g : Nat) : State :=
  { s with
    pos := 14
    samples := BitVec.ofNat 32 n
    channels := BitVec.ofNat 16 c
    rate := BitVec.ofNat 16 r
    levels := geometryLevels g
    subblocks := geometrySubblocks g
    samplesLeft := BitVec.ofNat 32 n
    samplesReady := 0
    rdptr := 0 }

theorem parseHeader_of_short {s : State} (h : s.size < 4) : parseHeader s = .error .format := if_pos h

/-- A typed read at `p` that answers hands its value and the advanced POS to what follows it. -/
theorem State.typedRead_bind {α : Type} {s : State} {p : Word} {n v : Nat} (h : s.memRead p.toNat n = some v)
    (f : Nat × State → Except FatalError α) :
    ({ s with pos := p }.typedRead n >>= f) = f (v, { s with pos := p + BitVec.ofNat 32 n }) := by
  rw [State.typedRead_ok s n v p h]
  rfl

/-- The signature is compared before the header's length is. -/
theorem parseHeader_of_wrong_signature {s : State} {sig : Nat} (h : s.memRead 0 4 = some sig)
    (hne : sig ≠ Config.MAGIC) : parseHeader s = .error .format := by
  have hsize := State.size_of_memRead h
  unfold parseHeader
  rw [if_neg (by omega), State.typedRead_bind (p := 0) h]
  exact if_pos hne

theorem parseHeader_of_truncated {s : State} (h : s.memRead 0 4 = some Config.MAGIC) (hlt : s.size < 14) :
    parseHeader s = .error .io := by
  have hsize := State.size_of_memRead h
  unfold parseHeader
  rw [if_neg (by omega), State.typedRead_bind (p := 0) h]
  exact (if_neg (not_not.2 rfl)).trans (if_pos hlt)

theorem parseHeader_of_header {s : State} {n c r g : Nat} (h : Header s Config.MAGIC n c r g) :
    parseHeader s = .ok (parsedState s n c r g) := by
  have hsize : ¬s.size < Config.HDR_BYTES := Nat.not_lt.2 (State.size_of_memRead h.geometry)
  unfold parseHeader
  rw [if_neg (fun hlt => hsize (hlt.trans (by decide))), State.typedRead_bind (p := 0) h.signature]
  refine (if_neg (not_not.2 rfl)).trans ((if_neg hsize).trans ?_)
  -- Each field's read leaves POS at the next field.
  calc
    _ = _ := State.typedRead_bind (p := 4) h.samples _
    _ = _ := State.typedRead_bind (p := 8) h.channels _
    _ = _ := State.typedRead_bind (p := 10) h.rate _
    _ = _ := State.typedRead_bind (p := 12) h.geometry _

/-! ### Both units' initialisation -/

/-- RE accepts every geometry BU accepts: 2^16 * 15 slots fill the buffer exactly. -/
theorem dGeomOK_of_uGeomOK {s : State} (h : s.uGeomOK = true) : s.dGeomOK = true := by
  obtain ⟨hL1, hL16, hS1, hS15⟩ := (uGeomOK_iff s).1 h
  have hblock : 2 ^ s.levels.toNat * s.subblocks.toNat ≤ 2 ^ 16 * 15 :=
    Nat.mul_le_mul (Nat.pow_le_pow_right (by omega) hL16) hS15
  exact (State.dGeomOK_iff s).2 ⟨hL1, hL16, hS1, hblock⟩

/-- BU's checks decide the initialisation alone; RE's error is never raised (spec/90_conflicts.md C10). -/
theorem initUnits_eq (s : State) : initUnits s =
    if s.uGeomOK && s.payloadSuffices then .ok ((s.unpackerReset.setUok true).clearScr.setDok true).setOpened
    else .error (.initialization .bu) := by
  unfold initUnits unpackerInit
  by_cases hbu : (s.uGeomOK && s.payloadSuffices) = true
  · have hre : (s.unpackerReset.setUok true).dGeomOK = true :=
      dGeomOK_of_uGeomOK (s := s) (Bool.and_eq_true_iff.1 hbu).1
    simp only [if_pos hbu, decoderInit, if_pos hre]
    rfl
  · simp only [if_neg hbu]
    rfl

/-! ### The parsed geometry -/

/-- The geometry word is two bytes, so its levels fit their register. -/
theorem geometryLevels_toNat {g : Nat} (hg : g < 2 ^ 16) : (geometryLevels g).toNat = g / 16 := by
  rw [geometryLevels, BitVec.toNat_ofNat]
  omega

theorem geometrySubblocks_toNat (g : Nat) : (geometrySubblocks g).toNat = g % 16 := BitVec.toNat_ofNat g 4

theorem geometrySubblocks_eq_mod (g : Nat) : geometrySubblocks g = BitVec.ofNat 4 (g % 16) := by
  rw [← geometrySubblocks_toNat, BitVec.ofNat_toNat, BitVec.setWidth_eq]

section
variable {s : State} {n c r g : Nat}

theorem parsedState_levels (hg : g < 2 ^ 16) : (parsedState s n c r g).levels.toNat = g / 16 := geometryLevels_toNat hg

theorem parsedState_subblocks : (parsedState s n c r g).subblocks.toNat = g % 16 := geometrySubblocks_toNat g

/-- BU accepts the parsed geometry and payload just where the header's are good. -/
theorem parsedState_accepted_iff (hg : g < 2 ^ 16) :
    ((parsedState s n c r g).uGeomOK && (parsedState s n c r g).payloadSuffices) = true ↔ GoodGeometry s g := by
  have hpayload : (parsedState s n c r g).payloadSuffices = true ↔ g % 16 * 2 ≤ 8 * (s.size - 14) := by
    unfold State.payloadSuffices
    rw [decide_eq_true_iff, parsedState_subblocks]
    rfl
  rw [Bool.and_eq_true, uGeomOK_iff, hpayload, parsedState_levels hg, parsedState_subblocks]
  unfold GoodGeometry
  omega

/-- Both units initialised over the parsed state, and the command completed: R100's next state. -/
theorem initialised_parsedState (hg : g < 2 ^ 16) :
    (((parsedState s n c r g).unpackerReset.setUok true).clearScr.setDok true).setOpened.complete 1 =
      openedState s n c r g := by
  have hctx : (parsedState s n c r g).unpackerReset.ctx = freshContext (g / 16) := by
    unfold State.unpackerReset freshContext
    simp only [parsedState_levels hg]
    rfl
  unfold openedState
  rw [← hctx, ← geometrySubblocks_eq_mod]
  rfl

end

/-! ### The command -/

section
variable {s : State}

theorem geometryWord_lt {sig n c r g : Nat} (h : Header s sig n c r g) : g < 2 ^ 16 := State.memRead_lt h.geometry

theorem openBody_of_parseError {e : FatalError} (h : parseHeader s = .error e) : openBody s = .error e := by
  unfold openBody
  rw [h]
  rfl

theorem openBody_of_header {n c r g : Nat} (h : Header s Config.MAGIC n c r g) :
    openBody s = initUnits (parsedState s n c r g) := by
  unfold openBody
  rw [parseHeader_of_header h]
  rfl

theorem execOpen_of_ok {t : State} (hf : s.status.fault = false) (ho : s.status.opened = false)
    (h : openBody s = .ok t) : exec .openStream s = .next (t.complete 1) := by
  change execOpen s = _
  simp [execOpen, hf, ho, h]

theorem execOpen_of_error {e : FatalError} (hf : s.status.fault = false) (ho : s.status.opened = false)
    (h : openBody s = .error e) : exec .openStream s = .next (s.raise e) := by
  change execOpen s = _
  simp [execOpen, hf, ho, h]

end

/-- Settles O31: the parse and both initialisations pass, and the completed state is R100's. -/
theorem openAcceptsGoodHeader : Obligations.OpenAcceptsGoodHeader := by
  intro s n c r g hf ho _ hheader hgood
  have hg := geometryWord_lt hheader
  have hbody : openBody s =
      .ok (((parsedState s n c r g).unpackerReset.setUok true).clearScr.setDok true).setOpened := by
    rw [openBody_of_header hheader, initUnits_eq, if_pos ((parsedState_accepted_iff hg).2 hgood)]
  rw [execOpen_of_ok hf ho hbody, initialised_parsedState hg]

/-- Settles O32: the first three errors are the parse's, the last is BU's. -/
theorem openRaisesFatalErrors : Obligations.OpenRaisesFatalErrors := by
  intro s hf ho _
  refine ⟨fun hshort => ?_, fun sig hsig hne => ?_, fun hsig hlt => ?_, fun n c r g hheader hbad => ?_⟩
  · exact execOpen_of_error hf ho (openBody_of_parseError (parseHeader_of_short hshort))
  · exact execOpen_of_error hf ho (openBody_of_parseError (parseHeader_of_wrong_signature hsig hne))
  · exact execOpen_of_error hf ho (openBody_of_parseError (parseHeader_of_truncated hsig hlt))
  · apply execOpen_of_error hf ho
    rw [openBody_of_header hheader, initUnits_eq, if_neg (mt (parsedState_accepted_iff (geometryWord_lt hheader)).1 hbad)]

/-- BLOCKSIZE after OPEN: a good geometry's block size, which fits the register (spec/10_state.md R27). -/
theorem openedState_blocksize {s : State} {n c r g : Nat} (hgood : GoodGeometry s g) :
    ((openedState s n c r g).readReg 0x28 32).toNat = 2 ^ (g / 16) * (g % 16) := by
  obtain ⟨hL1, hL16, hS1, -⟩ := hgood
  have hlevels : (openedState s n c r g).levels.toNat = g / 16 := geometryLevels_toNat (by omega)
  have hsub : (openedState s n c r g).subblocks.toNat = g % 16 :=
    (congrArg BitVec.toNat (geometrySubblocks_eq_mod g)).symm.trans (geometrySubblocks_toNat g)
  have hblock : 2 ^ (g / 16) * (g % 16) ≤ 2 ^ 16 * 15 :=
    Nat.mul_le_mul (Nat.pow_le_pow_right (by omega) hL16) (by omega)
  rw [readReg_of_regAt (r := .blocksize) _ rfl rfl, regValue_blocksize, hlevels, hsub, if_pos ⟨hL1, hL16, hS1, hblock⟩,
    BitVec.toNat_ofNat, Nat.mod_eq_of_lt (hblock.trans_lt (by decide))]

/-- A field that fits its register reads back at the port's 32 bits. -/
theorem toNat_setWidth_ofNat {w x : Nat} (hw : w ≤ 32) (hx : x < 2 ^ w) :
    ((BitVec.ofNat w x).setWidth 32).toNat = x := by
  rw [BitVec.toNat_setWidth_of_le hw, BitVec.toNat_ofNat, Nat.mod_eq_of_lt hx]

/-- Settles O33: O31's next state read at the four registers, or O32's last error. -/
theorem headerRoundTrip : Obligations.HeaderRoundTrip := by
  intro s n c r g hf ho hsize hheader
  refine ⟨fun hgood => ?_, fun hbad => ?_⟩
  · have hn : n < 2 ^ 32 := State.memRead_lt hheader.samples
    refine ⟨_, openAcceptsGoodHeader s n c r g hf ho hsize hheader hgood, openedState_blocksize hgood, ?_, ?_, ?_⟩
    · rw [readReg_of_regAt (r := .samples) _ rfl rfl]
      exact (BitVec.toNat_ofNat n 32).trans (Nat.mod_eq_of_lt hn)
    · rw [readReg_of_regAt (r := .channels) _ rfl rfl]
      exact toNat_setWidth_ofNat (by decide) (State.memRead_lt hheader.channels)
    · rw [readReg_of_regAt (r := .rate) _ rfl rfl]
      exact toNat_setWidth_ofNat (by decide) (State.memRead_lt hheader.rate)
  · obtain ⟨-, -, -, hinit⟩ := openRaisesFatalErrors s hf ho hsize
    exact ⟨_, hinit n c r g hheader hbad, rfl, rfl, rfl⟩

end Sys2Proof.Machine

/-! ## BU's accumulator: the payload bits still to come, and FetchBits (spec/41_unpacker.md R115, spec/20_memory.md R57) -/

namespace Sys2Proof.Claims

open Sys2Proof Sys2Proof.Machine Sys2Proof.Safety

section
variable {s : State} {w : Nat}

theorem pendingBits_length (s : State) : (pendingBits s).length = s.bitcnt.toNat + 8 * (s.size - s.pos.toNat) := by
  simp [pendingBits, State.size, mul_comm]

/-- The accumulator's valid bits come first. -/
theorem pendingBits_getElem {i : Nat} (h : i < (pendingBits s).length) (hi : i < s.bitcnt.toNat) :
    (pendingBits s)[i] = s.bitbuf.getLsbD i := by
  simp only [pendingBits]
  rw [List.getElem_append_left (by simpa using hi), List.getElem_map, List.getElem_range]

/-! ### One byte moved into the accumulator -/

theorem CursorOK.fetchByte (h : CursorOK s) (hc : s.bitcnt.toNat < 16) (hp : s.pos.toNat < s.size) :
    CursorOK s.fetchByte where
  inStream := ⟨(Safety.fetchByte_pos s hp h.inStream.2).trans_le hp, h.inStream.2⟩
  valid := by
    obtain ⟨hcnt, hbuf⟩ := fetchByte_accumulator s hc h.valid.2
    rw [hcnt]
    exact ⟨by omega, hbuf⟩

/-- A byte put above a word's `n` valid bits follows them, its least significant bit first. -/
theorem bits_of_byteAbove (x : Word) (b : Byte) {n : Nat} (hx : x.toNat < 2 ^ n) (hn : n < 16) :
    (List.range (n + 8)).map (x ||| b.setWidth 32 <<< n).getLsbD =
      (List.range n).map x.getLsbD ++ (List.range 8).map b.getLsbD := by
  rw [List.range_add, List.map_append, List.map_map]
  congr 1
  · refine List.map_congr_left fun i hi => ?_
    simp [List.mem_range.1 hi]
  · refine List.map_congr_left fun i hi => ?_
    have hi : i < 8 := List.mem_range.1 hi
    have hhigh : x.getLsbD (n + i) = false :=
      Nat.testBit_lt_two_pow (hx.trans_le (Nat.pow_le_pow_right (by omega) (by omega)))
    simp only [Function.comp_apply, BitVec.getLsbD_or, hhigh, BitVec.getLsbD_shiftLeft, BitVec.getLsbD_setWidth,
      Bool.false_or, Nat.add_sub_cancel_left, show n + i < 32 by omega, show ¬n + i < n by omega, show i < 32 by omega,
      decide_true, decide_false, Bool.not_false, Bool.true_and]

/-- No bit is lost or put out of order by a byte's move from the stream into the accumulator. -/
theorem pendingBits_fetchByte (h : CursorOK s) (hc : s.bitcnt.toNat < 16) (hp : s.pos.toNat < s.size) :
    pendingBits s.fetchByte = pendingBits s := by
  obtain ⟨hcnt, -⟩ := fetchByte_accumulator s hc h.valid.2
  have hpos := Safety.fetchByte_pos s hp h.inStream.2
  have hp : s.pos.toNat < s.stream.length := hp
  unfold pendingBits
  rw [hcnt, hpos, State.fetchByte_stream, State.fetchByte_bitbuf, List.getElem?_eq_getElem hp, Option.getD_some,
    bits_of_byteAbove _ _ h.valid.2 hc, List.drop_eq_getElem_cons hp, List.flatMap_cons, List.append_assoc]

/-! ### The loop that fills the accumulator -/

/-- What FetchBits' loop does for a field of `w` bits: it loses no bit, stops short of `w` at the stream's end only, and
fetches no byte it does not need. -/
structure Filled (w : Nat) (s t : State) : Prop where
  cursor : CursorOK t
  pending : pendingBits t = pendingBits s
  exhausted : t.bitcnt.toNat < w → t.pos.toNat = t.size
  needed : t = s ∨ t.bitcnt.toNat < w + 8

/-- Each round adds eight bits, so as many rounds as bits are missing suffice. -/
theorem CursorOK.fillBits (h : CursorOK s) (hw : w ≤ 16) {rounds : Nat} (hr : w ≤ s.bitcnt.toNat + 8 * rounds) :
    Filled w s (fillBits w rounds s) := by
  induction rounds generalizing s with
  | zero => exact ⟨h, rfl, fun hlt => absurd hlt (by simpa [Machine.fillBits] using hr), .inl rfl⟩
  | succ rounds ih =>
    rw [Machine.fillBits]
    split
    · next hmore =>
      have hc : s.bitcnt.toNat < 16 := by omega
      obtain ⟨hcnt, -⟩ := fetchByte_accumulator s hc h.valid.2
      have hf := ih (h.fetchByte hc hmore.2) (by omega)
      refine ⟨hf.cursor, hf.pending.trans (pendingBits_fetchByte h hc hmore.2), hf.exhausted, .inr ?_⟩
      rcases hf.needed with hsame | hlt
      · rw [hsame]
        omega
      · exact hlt
    · next hstop =>
      refine ⟨h, rfl, fun hlt => ?_, .inl rfl⟩
      have := h.inStream.1
      omega

/-! ### The field taken from the accumulator -/

theorem consumeBits_bitcnt_toNat (hw : w ≤ s.bitcnt.toNat) :
    (s.consumeBits w).bitcnt.toNat = s.bitcnt.toNat - w := by
  have hcnt := s.bitcnt.isLt
  have hfield : (BitVec.ofNat 5 w).toNat = w := by
    rw [BitVec.toNat_ofNat]
    omega
  rw [State.consumeBits_bitcnt, BitVec.toNat_sub_of_le (by rw [BitVec.le_def]; omega), hfield]

theorem CursorOK.consumeBits (h : CursorOK s) (hw : w ≤ s.bitcnt.toNat) : CursorOK (s.consumeBits w) where
  inStream := h.inStream
  valid := by
    obtain ⟨hle, hlt⟩ := h.valid
    rw [consumeBits_bitcnt_toNat hw, State.consumeBits_bitbuf, BitVec.toNat_ushiftRight, Nat.shiftRight_eq_div_pow]
    refine ⟨by omega, Nat.div_lt_of_lt_mul ?_⟩
    rwa [← pow_add, Nat.add_sub_cancel' hw]

theorem pendingBits_consumeBits (hw : w ≤ s.bitcnt.toNat) : pendingBits (s.consumeBits w) = (pendingBits s).drop w := by
  obtain ⟨n, hn⟩ := Nat.exists_eq_add_of_le hw
  have hrest : (s.consumeBits w).bitcnt.toNat = n := by rw [consumeBits_bitcnt_toNat hw, hn, Nat.add_sub_cancel_left]
  have htail : (List.range n).map (s.bitbuf >>> w).getLsbD = (List.range n).map (s.bitbuf.getLsbD ∘ (w + ·)) :=
    List.map_congr_left fun i _ => BitVec.getLsbD_ushiftRight ..
  simp only [pendingBits, hrest, hn, State.consumeBits_bitbuf, htail, List.range_add, List.map_append, List.map_map]
  rw [List.append_assoc, List.drop_left' (by simp)]
  rfl

/-! ### FetchBits -/

/-- FetchBits answers by what its loop leaves: a field where the accumulator then holds enough bits, else eos. -/
theorem fetchBits_of_enough (hw : w ≤ (fillBits w w s).bitcnt.toNat) :
    fetchBits w s = (some ((fillBits w w s).bitbuf.setWidth w), (fillBits w w s).consumeBits w) :=
  if_neg (by omega)

theorem fetchBits_of_short (hw : (fillBits w w s).bitcnt.toNat < w) : fetchBits w s = (none, fillBits w w s) := if_pos hw

theorem fillBits_size (w rounds : Nat) (s : State) : (fillBits w rounds s).size = s.size := by
  obtain ⟨p, b, c, h⟩ := fillBits_frame w rounds s
  rw [h]
  rfl

/-- A filled accumulator holds enough bits just where so many were to come. -/
theorem Filled.enough_iff {t : State} (h : Filled w s t) : w ≤ t.bitcnt.toNat ↔ w ≤ (pendingBits s).length := by
  rw [← h.pending, pendingBits_length]
  refine ⟨fun hw => by omega, fun hw => ?_⟩
  by_contra hshort
  have hpos := h.exhausted (by omega)
  omega

theorem CursorOK.fetchBits (h : CursorOK s) (hw : w ≤ 16) : CursorOK (Machine.fetchBits w s).2 := by
  have hfill := h.fillBits hw (rounds := w) (by omega)
  by_cases henough : w ≤ (Machine.fillBits w w s).bitcnt.toNat
  · rw [fetchBits_of_enough henough]
    exact hfill.cursor.consumeBits henough
  · rw [fetchBits_of_short (by omega)]
    exact hfill.cursor

/-- `fetchBits_frame` with the fields that FetchBits may move read back from its state, as the statements name them. -/
theorem fetchBits_eta (w : Nat) (s : State) : (fetchBits w s).2 =
    { s with pos := (fetchBits w s).2.pos, bitbuf := (fetchBits w s).2.bitbuf, bitcnt := (fetchBits w s).2.bitcnt } := by
  obtain ⟨p, b, c, h⟩ := fetchBits_frame w s
  rw [h]

end

/-- Settles O36: the loop loses no bit, and the field is the accumulator's low end. -/
theorem fetchBitsTakesOldestBitsFirst : Obligations.FetchBitsTakesOldestBitsFirst := by
  intro s w h h2 h16
  have hfill : Filled w s (fillBits w w s) := h.fillBits h16 (by omega)
  have hframe := fetchBits_eta w s
  have hcursor := h.fetchBits h16
  refine ⟨fun hlen => ?_, fun hlen => ?_⟩
  · have henough := hfill.enough_iff.2 hlen
    rw [fetchBits_of_enough henough] at hframe hcursor ⊢
    refine ⟨_, _, rfl, fun i hi hiw => ?_, ?_, hcursor, ?_, hframe⟩
    · have hi' : i < (pendingBits (fillBits w w s)).length := by rwa [hfill.pending]
      have hbit := pendingBits_getElem hi' (by omega)
      simp only [hfill.pending] at hbit
      rw [hbit, BitVec.getLsbD_setWidth, decide_eq_true hiw, Bool.true_and]
    · rw [pendingBits_consumeBits henough, hfill.pending]
    · rw [consumeBits_bitcnt_toNat henough]
      rcases hfill.needed with hsame | hlt
      · exact .inl (by rw [State.consumeBits_pos, hsame])
      · exact .inr (by omega)
  · have hshort : (fillBits w w s).bitcnt.toNat < w := by
      have := hfill.enough_iff
      omega
    rw [fetchBits_of_short hshort] at hframe hcursor ⊢
    exact ⟨_, rfl, hfill.pending, hcursor, (hfill.exhausted hshort).trans (fillBits_size w w s), hframe⟩

end Sys2Proof.Claims

/-! ## ReadCode: its bounds (spec/41_unpacker.md R116, R125) -/

namespace Sys2Proof.Claims

open Sys2Proof Sys2Proof.Machine Sys2Proof.Safety

/-- The value of a field that is not the reserved pattern has no magnitude of `w` bits. -/
theorem natAbs_codeValue_le {w : Nat} {u : BitVec w} (h2 : 2 ≤ w) (hu : u.toNat ≠ 2 ^ (w - 1)) :
    (codeValue u).natAbs ≤ 2 ^ (w - 1) - 1 := by
  have hlt := u.isLt
  have hmag := codeMagnitude_eq u
  obtain ⟨k, rfl⟩ := Nat.exists_eq_add_of_le' (show 1 ≤ w by omega)
  rw [Nat.add_sub_cancel] at hu ⊢
  rw [pow_succ] at hmag hlt
  change codeMagnitude u ≤ _
  split at hmag <;> omega

theorem classify_value_bound {w : Nat} {u : BitVec w} {s : State} {v : Int} (h2 : 2 ≤ w)
    (hv : (classify u s).1 = .ok v) : v.natAbs ≤ 2 ^ (w - 1) - 1 := by
  unfold classify at hv
  split_ifs at hv with hrsv
  all_goals cases hv
  all_goals exact natAbs_codeValue_le h2 hrsv

/-- A branch that writes a width writes one at most above the width read; no other entry moves. -/
theorem classify_ctxWidth_le {w : Nat} (u : BitVec w) {s : State} (h2 : 2 ≤ w) (h16 : w ≤ 16)
    (hw : s.ctxWidth s.lvlptr.toNat = w) (i : Nat) : (classify u s).2.ctxWidth i ≤ s.ctxWidth i + 1 := by
  have hset : ∀ v ≤ 16, v ≤ w + 1 → ((s.setCtx v).advanceLevel).ctxWidth i ≤ s.ctxWidth i + 1 := by
    intro v hv hvw
    change (s.setCtx v).ctxWidth i ≤ _
    rw [ctxWidth_setCtx s v i (by omega)]
    split
    · next hi => rw [hi, hw]; exact hvw
    · omega
  unfold classify
  split_ifs
  · exact Nat.le_succ _
  · exact hset _ (Nat.min_le_right ..) (Nat.min_le_left ..)
  · exact hset _ (by simp only [Config.W_MIN]; omega) (by simp only [Config.W_MIN]; omega)
  · exact Nat.le_succ _

/-- The cursor's bounds speak of the stream, the cursor and the accumulator only. -/
theorem CursorOK.classify {s : State} (h : CursorOK s) {w : Nat} (u : BitVec w) : CursorOK (classify u s).2 := by
  obtain ⟨x, l, hf⟩ := classify_frame u s
  rw [hf]
  exact ⟨h.inStream, h.valid⟩

/-- ReadCode is a branch over what FetchBits left: eos, or the class of the field it took. -/
theorem readCode_cases (s : State) :
    readCode s = eosCode (fetchBits (s.ctxWidth s.lvlptr.toNat) s).2 ∨
    ∃ u : BitVec (s.ctxWidth s.lvlptr.toNat), readCode s = classify u (fetchBits (s.ctxWidth s.lvlptr.toNat) s).2 := by
  rcases hf : fetchBits (s.ctxWidth s.lvlptr.toNat) s with ⟨_ | u, s'⟩
  · exact .inl (readCode_of_none hf)
  · exact .inr ⟨u, readCode_of_some hf⟩

theorem CursorOK.readCode {s : State} (h : CursorOK s) (hc : s.contextLegal = true) : CursorOK (readCode s).2 := by
  obtain ⟨-, h16⟩ := nextWidth_legal hc
  rcases readCode_cases s with heos | ⟨u, hclass⟩
  · rw [heos]
    exact h.fetchBits h16
  · rw [hclass]
    exact (h.fetchBits h16).classify u

/-- A value that ReadCode answers is the fetched field's, by its class. -/
theorem readCode_value_bound {s : State} {v : Int} (hc : s.contextLegal = true) (hv : (readCode s).1 = .ok v) :
    v.natAbs ≤ 2 ^ (s.ctxWidth s.lvlptr.toNat - 1) - 1 := by
  obtain ⟨h2, -⟩ := nextWidth_legal hc
  rcases readCode_cases s with heos | ⟨u, hclass⟩
  · rw [heos] at hv
    cases hv
  · rw [hclass] at hv
    exact classify_value_bound h2 hv

theorem readCode_ctxWidth_le {s : State} (hc : s.contextLegal = true) (i : Nat) :
    (readCode s).2.ctxWidth i ≤ s.ctxWidth i + 1 := by
  obtain ⟨h2, h16⟩ := nextWidth_legal hc
  obtain ⟨p, b, c, hframe⟩ := fetchBits_frame (s.ctxWidth s.lvlptr.toNat) s
  rcases readCode_cases s with heos | ⟨u, hclass⟩
  · rw [heos, hframe]
    exact Nat.le_succ _
  · rw [hclass, hframe]
    exact classify_ctxWidth_le u (s := { s with pos := p, bitbuf := b, bitcnt := c }) h2 h16 rfl i

/-- Settles O37, a bound at a time; 16 bits is the widest code. -/
theorem readCodeStaysInBounds : Obligations.ReadCodeStaysInBounds := by
  intro s hc hcur
  refine ⟨readCode_legal s hc, hcur.readCode hc, readCode_ctxWidth_le hc, fun v hv => ?_, ?_⟩
  · have hbound := readCode_value_bound hc hv
    obtain ⟨-, h16⟩ := nextWidth_legal hc
    have hpow : 2 ^ (s.ctxWidth s.lvlptr.toNat - 1) ≤ 2 ^ 15 := Nat.pow_le_pow_right (by omega) (by omega)
    exact ⟨hbound, by omega⟩
  · obtain ⟨p, b, c, x, l, hframe⟩ := readCode_frame s
    rw [hframe]

end Sys2Proof.Claims

/-! ## GETBLK (spec/41_unpacker.md R122, R124) -/

namespace Sys2Proof.Machine

open Sys2Proof Sys2Proof.Safety Sys2Proof.Claims

/-! ### BU reads its codes whatever a slot of the buffer holds -/

theorem fillBits_writeSlot (w rounds : Nat) (s : State) (j : Nat) (x : Slot) :
    fillBits w rounds (s.writeSlot j x) = (fillBits w rounds s).writeSlot j x := by
  induction rounds generalizing s with
  | zero => rfl
  | succ rounds ih =>
    rw [fillBits, fillBits, apply_ite (State.writeSlot · j x), ← ih]
    rfl

theorem fetchBits_writeSlot (w : Nat) (s : State) (j : Nat) (x : Slot) :
    fetchBits w (s.writeSlot j x) = ((fetchBits w s).1, (fetchBits w s).2.writeSlot j x) := by
  have hfill := fillBits_writeSlot w w s j x
  rcases Nat.lt_or_ge (fillBits w w s).bitcnt.toNat w with h | h
  · rw [fetchBits_of_short h, fetchBits_of_short (s := s.writeSlot j x) (by rwa [hfill]), hfill]
  · rw [fetchBits_of_enough h, fetchBits_of_enough (s := s.writeSlot j x) (by rwa [hfill]), hfill]
    rfl

theorem classify_writeSlot {w : Nat} (u : BitVec w) (s : State) (j : Nat) (x : Slot) :
    classify u (s.writeSlot j x) = ((classify u s).1, (classify u s).2.writeSlot j x) := by
  unfold classify
  split_ifs <;> rfl

theorem readCode_writeSlot (s : State) (j : Nat) (x : Slot) :
    readCode (s.writeSlot j x) = ((readCode s).1, (readCode s).2.writeSlot j x) := by
  have hfetch := fetchBits_writeSlot (s.ctxWidth s.lvlptr.toNat) s j x
  rcases hf : fetchBits (s.ctxWidth s.lvlptr.toNat) s with ⟨_ | u, s'⟩ <;> rw [hf] at hfetch
  · rw [readCode_of_none hf, readCode_of_none (s := s.writeSlot j x) hfetch]
    rfl
  · rw [readCode_of_some hf, readCode_of_some (s := s.writeSlot j x) hfetch]
    exact classify_writeSlot u s' j x

/-! ### The codes of a block, read with no buffer in sight -/

theorem readCodes_writeSlot (n : Nat) (s : State) (j : Nat) (x : Slot) :
    readCodes n (s.writeSlot j x) = ((readCodes n s).1, (readCodes n s).2.1, (readCodes n s).2.2.writeSlot j x) := by
  induction n generalizing s with
  | zero => rfl
  | succ n ih =>
    rw [readCodes, readCodes, readCode_writeSlot]
    rcases readCode s with ⟨v | _ | _, s'⟩
    · simp only [ih]
    · rfl
    · rfl

/-- Codes read one after another move BU's own state only. -/
theorem readCodes_frame (n : Nat) (s : State) : ∃ p b c x l,
    (readCodes n s).2.2 = { s with pos := p, bitbuf := b, bitcnt := c, ctx := x, lvlptr := l } := by
  induction n generalizing s with
  | zero => exact ⟨_, _, _, _, _, rfl⟩
  | succ n ih =>
    obtain ⟨p, b, c, x, l, hframe⟩ := readCode_frame s
    rw [readCodes]
    rcases hr : readCode s with ⟨v | _ | _, s'⟩ <;> rw [hr] at hframe <;> dsimp only at hframe ⊢
    · obtain ⟨p', b', c', x', l', hrest⟩ := ih s'
      exact ⟨p', b', c', x', l', by rw [hrest, hframe]⟩
    · exact ⟨p, b, c, x, l, hframe⟩
    · exact ⟨p, b, c, x, l, hframe⟩

/-- The reading stops short of `n` values just where a code has failed. -/
theorem readCodes_length (n : Nat) (s : State) :
    ((readCodes n s).2.1 = none → (readCodes n s).1.length = n) ∧
    (∀ c, (readCodes n s).2.1 = some c → (readCodes n s).1.length < n) := by
  induction n generalizing s with
  | zero => exact ⟨fun _ => rfl, nofun⟩
  | succ n ih =>
    rw [readCodes]
    rcases readCode s with ⟨v | _ | _, s'⟩
    · obtain ⟨hall, hsome⟩ := ih s'
      exact ⟨fun h => congrArg Nat.succ (hall h), fun c h => Nat.succ_lt_succ (hsome c h)⟩
    · exact ⟨nofun, fun _ _ => Nat.succ_pos n⟩
    · exact ⟨nofun, fun _ _ => Nat.succ_pos n⟩

/-! ### Their values written to the buffer -/

/-- A run of values written to the slots from `j` on. -/
def State.writeSlots : State → Nat → List Int → State
  | s, _, [] => s
  | s, j, v :: vs => (s.writeSlot j (slotOfValue v)).writeSlots (j + 1) vs

theorem State.writeSlots_frame (s : State) (j : Nat) (vs : List Int) : ∃ m, s.writeSlots j vs = { s with buf := m } := by
  induction vs generalizing s j with
  | nil => exact ⟨s.buf, rfl⟩
  | cons v vs ih => exact ih (s.writeSlot j (slotOfValue v)) (j + 1)

theorem State.readSlot_writeSlots_other (s : State) {i j : Nat} {vs : List Int} (h : i < j ∨ j + vs.length ≤ i) :
    (s.writeSlots j vs).readSlot i = s.readSlot i := by
  induction vs generalizing s j with
  | nil => rfl
  | cons v vs ih =>
    rw [List.length_cons] at h
    rw [writeSlots, ih _ (by omega), readSlot_writeSlot_other _ _ (by omega)]

theorem State.readSlot_writeSlots (s : State) (j : Nat) {vs : List Int} {i : Nat} (h : i < vs.length) :
    (s.writeSlots j vs).readSlot (j + i) = slotOfValue vs[i] := by
  induction vs generalizing s i j with
  | nil => exact absurd h (Nat.not_lt_zero i)
  | cons v vs ih =>
    cases i with
    | zero => exact (readSlot_writeSlots_other _ (.inl (Nat.lt_succ_self j))).trans (readSlot_writeSlot_same ..)
    | succ i =>
      rw [writeSlots, show j + (i + 1) = j + 1 + i by omega, ih _ _ (Nat.lt_of_succ_lt_succ h), List.getElem_cons_succ]

/-- What GetOneBlock's loop answers, by why the reading stopped. -/
def blockOutcome (s : State) : Option Cause → Bool × State
  | none => (true, s)
  | some c => (false, s.failUnpacker c)

/-- GetOneBlock's loop does to BU what reading the codes alone does, and writes their values to the slots in turn. -/
theorem fillBlock_eq (n j : Nat) (s : State) :
    fillBlock n j s = blockOutcome ((readCodes n s).2.2.writeSlots j (readCodes n s).1) (readCodes n s).2.1 := by
  induction n generalizing j s with
  | zero => rfl
  | succ n ih =>
    rw [fillBlock, readCodes]
    rcases readCode s with ⟨v | _ | _, s'⟩
    · dsimp only
      rw [ih, readCodes_writeSlot]
      rfl
    · rfl
    · rfl

/-! ### The command -/

/-- GETBLK's next state, where it is not refused. -/
theorem execGetblk_of_uok {s : State} (hf : s.status.fault = false) (hu : s.status.uok = true)
    (hc : s.status.ufail = false → s.contextLegal = true) :
    exec .getblk s = .next ((getOneBlock s).2.complete (boolWord (getOneBlock s).1)) := by
  change execGetblk s = _
  cases hfail : s.status.ufail
  · simp [execGetblk, hf, hu, hc hfail]
  · simp [execGetblk, hf, hu, hfail]

/-- The command's end tells the block's outcome in RESULT, UFAIL and CAUSE, and touches no slot. -/
theorem blockOutcome_readSlot (s : State) (o : Option Cause) (v : Word) (j : Nat) :
    ((blockOutcome s o).2.complete v).readSlot j = s.readSlot j := by
  cases o <;> rfl

/-- Settles O38: the block's values are written over the state that reading its codes leaves. -/
theorem getblkExtractsABlock : Obligations.GetblkExtractsABlock := by
  refine ⟨rfl, fun s hf hu hfail hc => ?_⟩
  have hblock : getOneBlock s = _ := (if_neg (by simp [hfail])).trans (fillBlock_eq s.subblocks.toNat 0 s)
  have hexec := execGetblk_of_uok hf hu fun _ => hc
  obtain ⟨hall, hsome⟩ := readCodes_length s.subblocks.toNat s
  obtain ⟨p, b, c, x, l, hread⟩ := readCodes_frame s.subblocks.toNat s
  rw [hblock] at hexec
  rcases hr : readCodes s.subblocks.toNat s with ⟨vs, o, t⟩
  simp only [hr] at hexec hall hsome hread ⊢
  obtain ⟨m, hwrite⟩ := t.writeSlots_frame 0 vs
  refine ⟨_, hexec, fun ho => ⟨hall ho, ?_, ?_⟩, fun c ho => ⟨hsome c ho, ?_, ?_⟩, fun j hj => ?_, fun j hj => ?_, ?_⟩
  · rw [ho]; rfl
  · rw [ho, hwrite, hread]; rfl
  · rw [ho]; rfl
  · rw [ho, hwrite, hread]; rfl
  · have hslot := t.readSlot_writeSlots 0 hj
    rw [Nat.zero_add] at hslot
    rw [blockOutcome_readSlot, hslot]
    rfl
  · rw [blockOutcome_readSlot, State.readSlot_writeSlots_other _ (.inr (by omega)), hread]
    rfl
  · rw [hwrite]
    cases o <;> rfl

/-- Settles O39: a block after a failure is no block, so neither the context nor a code is looked at. -/
theorem getblkFailureIsSticky : Obligations.GetblkFailureIsSticky := by
  intro s hf hu hfail
  have hblock : getOneBlock s = (false, s) := if_pos hfail
  rw [execGetblk_of_uok hf hu fun h => absurd (hfail.symm.trans h) nofun, hblock]
  rfl

end Sys2Proof.Machine

/-! ## UINIT and URESET (spec/41_unpacker.md R112 to R114) -/

namespace Sys2Proof.Machine

open Sys2Proof Sys2Proof.Claims

/-- R112's two checks, in the words of the rule. -/
theorem unpackerInit_accepts_iff (s : State) : (s.uGeomOK && s.payloadSuffices) = true ↔
    1 ≤ s.levels.toNat ∧ s.levels.toNat ≤ 16 ∧ 1 ≤ s.subblocks.toNat ∧ s.subblocks.toNat ≤ 15 ∧
      s.subblocks.toNat * 2 ≤ 8 * (s.size - s.pos.toNat) := by
  rw [Bool.and_eq_true, uGeomOK_iff, State.payloadSuffices, decide_eq_true_iff, and_assoc, and_assoc, and_assoc]

theorem unpackerInit_of_accepted {s : State} (h : (s.uGeomOK && s.payloadSuffices) = true) :
    unpackerInit s = (true, s.unpackerReset.setUok true) := if_pos h

theorem unpackerInit_of_rejected {s : State} (h : ¬(s.uGeomOK && s.payloadSuffices) = true) :
    unpackerInit s = (false, s.setUok false) := if_neg h

theorem execUinit_of_fault {s : State} (h : s.status.fault = true) : exec .uinit s = .next (s.refuse .faulted) := if_pos h

theorem execUinit_of_noFault {s : State} (h : s.status.fault = false) :
    exec .uinit s = .next ((unpackerInit s).2.complete (boolWord (unpackerInit s).1)) :=
  if_neg (by simp [h])

/-- Settles O34: the checks decide, and either branch is a completed command. -/
theorem uinitInitialisesOrFails : Obligations.UinitInitialisesOrFails := by
  refine ⟨rfl, fun s => ⟨fun hf => execUinit_of_fault hf, fun hf hok => ?_, fun hf hbad => ?_⟩⟩
  · rw [execUinit_of_noFault hf, unpackerInit_of_accepted ((unpackerInit_accepts_iff s).2 hok)]
    rfl
  · rw [execUinit_of_noFault hf, unpackerInit_of_rejected (mt (unpackerInit_accepts_iff s).1 hbad)]
    rfl

theorem execUreset_of_noFault {s : State} (h : s.status.fault = false) :
    exec .ureset s = if s.status.uok then .next (s.unpackerReset.complete 1) else .next (s.refuse .badState) := by
  change execUreset s = _
  cases hu : s.status.uok <;> simp [execUreset, h, hu]

/-- Settles O35: the two refusals stand before the effect. -/
theorem uresetRestoresTheContext : Obligations.UresetRestoresTheContext := by
  refine ⟨rfl, fun s => ⟨fun hf => if_pos hf, fun hf hu => ?_, fun hf hu => ?_⟩⟩
  · rw [execUreset_of_noFault hf, if_neg (by simp [hu])]
    rfl
  · rw [execUreset_of_noFault hf, if_pos hu]
    rfl

end Sys2Proof.Machine

/-! ## The payload's code classes as instructions (spec/41_unpacker.md R117 to R121) -/

namespace Sys2Proof.Claims

open Sys2Proof Sys2Proof.Machine

/-- Over a legal context a code's class runs. -/
theorem runCode_of_legal {s : State} (f : State → CodeResult × State) (hc : s.contextLegal = true) :
    runCode f s = .next ((f s).2.deliver (f s).1) := if_pos hc

section
variable {w : Nat} {row : BitVec w → Instr}

/-- A row that runs class GROW has R117's effect: the two updates and the answer, written as one. -/
theorem growEffect_of_row (h : ∀ u s, exec (row u) s = runCode (growCode u) s) : GrowEffect w row :=
  fun u s _ _ hc => (h u s).trans (runCode_of_legal _ hc)

theorem holdEffect_of_row (h : ∀ u s, exec (row u) s = runCode (holdCode u) s) : HoldEffect w row :=
  fun u s _ _ hc => (h u s).trans (runCode_of_legal _ hc)

theorem shrinkEffect_of_row (h : ∀ u s, exec (row u) s = runCode (shrinkCode u) s) : ShrinkEffect w row :=
  fun u s _ _ hc => (h u s).trans (runCode_of_legal _ hc)

end

/-- Settles O53: the table's GROW row of each width runs the class. -/
theorem growCodesWiden : Obligations.GrowCodesWiden := by
  refine ⟨?_, ?_, ?_, ?_, ?_, ?_, ?_, ?_, ?_, ?_, ?_, ?_, ?_, ?_, ?_⟩
  all_goals exact growEffect_of_row fun _ _ => rfl

/-- Settles O54: the table's HOLD row of each width runs the class. -/
theorem holdCodesKeepTheWidth : Obligations.HoldCodesKeepTheWidth := by
  refine ⟨?_, ?_, ?_, ?_, ?_, ?_, ?_, ?_, ?_, ?_, ?_, ?_, ?_, ?_, ?_⟩
  all_goals exact holdEffect_of_row fun _ _ => rfl

/-- Settles O55: the table's SHRINK row of each width runs the class. -/
theorem shrinkCodesNarrow : Obligations.ShrinkCodesNarrow := by
  refine ⟨?_, ?_, ?_, ?_, ?_, ?_, ?_, ?_, ?_, ?_, ?_, ?_, ?_, ?_⟩
  all_goals exact shrinkEffect_of_row fun _ _ => rfl

/-- Settles O56: each RSV row delivers its answer and no more. -/
theorem reservedCodesFail : Obligations.ReservedCodesFail := by
  refine ⟨?_, ?_, ?_, ?_, ?_, ?_, ?_, ?_, ?_, ?_, ?_, ?_, ?_, ?_, ?_⟩
  all_goals exact fun _ => rfl

/-- Settles O57: CODE.EOS asks for no context, so it stops nowhere. -/
theorem endOfStreamCodeFails : Obligations.EndOfStreamCodeFails := fun _ => rfl

end Sys2Proof.Claims

/-! ## RE: DINIT, and DECODE's closed form (spec/42_decoder.md R132, R133, R135, R139, R140) -/

namespace Sys2Proof.Claims

open Sys2Proof Sys2Proof.Machine

/-! ### DINIT -/

theorem decoderInit_of_accepted {s : State} (h : s.dGeomOK = true) : decoderInit s = (true, s.clearScr.setDok true) :=
  if_pos h

theorem decoderInit_of_rejected {s : State} (h : ¬s.dGeomOK = true) : decoderInit s = (false, s.setDok false) :=
  if_neg h

theorem execDinit_of_noFault {s : State} (h : s.status.fault = false) :
    exec .dinit s = .next ((decoderInit s).2.complete (boolWord (decoderInit s).1)) :=
  if_neg (by simp [h])

/-- Settles O41: RE's geometry check decides, and either branch is a completed command. -/
theorem dinitInitialisesOrFails : Obligations.DinitInitialisesOrFails := by
  refine ⟨rfl, fun s => ⟨fun hf => if_pos hf, fun hf hok => ?_, fun hf hbad => ?_⟩⟩
  · rw [execDinit_of_noFault hf, decoderInit_of_accepted (s.dGeomOK_iff.2 hok)]
    rfl
  · rw [execDinit_of_noFault hf, decoderInit_of_rejected (mt s.dGeomOK_iff.1 hbad)]
    rfl

/-! ### The closed form composes: one stage, then the others, is one stage more -/

section
variable {L S q r : Nat} {c : Nat → Int}

/-- The closed form at offset `r` past coefficient `q`. -/
theorem interpolated_at (hr : r < 2 ^ L) :
    interpolated L S c (2 ^ L * q + r) = (2 ^ L - (r : Int)) * c q + (r : Int) * c (min (q + 1) (S - 1)) := by
  rw [interpolated, Nat.mul_add_mod, Nat.mod_eq_of_lt hr, Nat.mul_add_div (Nat.two_pow_pos L), Nat.div_eq_of_lt hr,
    Nat.add_zero]

/-- With no level the coefficients stand as they are. -/
theorem interpolated_zero (p : Nat) : interpolated 0 S c p = c p := by
  simp [interpolated, Nat.mod_one]

theorem interpolated_one_even : interpolated 1 S c (2 * q) = 2 * c q := by
  simpa using interpolated_at (L := 1) (S := S) (q := q) (r := 0) (c := c) (by decide)

theorem interpolated_one_odd : interpolated 1 S c (2 * q + 1) = c q + c (min (q + 1) (S - 1)) := by
  simpa using interpolated_at (L := 1) (S := S) (q := q) (r := 1) (c := c) (by decide)

/-- The last element of a doubled span is the doubled last element: the right edge repeats it. -/
theorem interpolated_one_last (hS : 1 ≤ S) : interpolated 1 S c (2 * S - 1) = 2 * c (S - 1) := by
  rw [show 2 * S - 1 = 2 * (S - 1) + 1 by omega, interpolated_one_odd, show min (S - 1 + 1) (S - 1) = S - 1 by omega,
    two_mul]

/-- Interpolating the doubled span over `L` levels is interpolating the span over `L + 1`: the offset in a coefficient's
span lies in the half before or in the half after the mean of the two neighbours. -/
theorem interpolated_interpolated_one {p : Nat} (hS : 1 ≤ S) (hp : p < S * 2 ^ (L + 1)) :
    interpolated L (2 * S) (interpolated 1 S c) p = interpolated (L + 1) S c p := by
  obtain ⟨Q, r, hr, rfl⟩ : ∃ Q r, r < 2 ^ L ∧ p = 2 ^ L * Q + r :=
    ⟨p / 2 ^ L, p % 2 ^ L, Nat.mod_lt _ (Nat.two_pow_pos L), (Nat.div_add_mod p _).symm⟩
  have hQ : Q < 2 * S := by
    refine Nat.lt_of_mul_lt_mul_left (a := 2 ^ L) ?_
    calc 2 ^ L * Q ≤ 2 ^ L * Q + r := Nat.le_add_right ..
      _ < S * 2 ^ (L + 1) := hp
      _ = 2 ^ L * (2 * S) := by ring
  rw [interpolated_at hr]
  rcases Nat.even_or_odd' Q with ⟨q, rfl | rfl⟩
  · have hmin : min (2 * q + 1) (2 * S - 1) = 2 * q + 1 := by omega
    rw [hmin, interpolated_one_even, interpolated_one_odd, show 2 ^ L * (2 * q) + r = 2 ^ (L + 1) * q + r by ring,
      interpolated_at (by rw [pow_succ]; omega)]
    ring
  · have hnext : interpolated 1 S c (min (2 * q + 1 + 1) (2 * S - 1)) = 2 * c (min (q + 1) (S - 1)) := by
      rcases Nat.lt_or_ge (q + 1) S with h | h
      · rw [show min (2 * q + 1 + 1) (2 * S - 1) = 2 * (q + 1) by omega, interpolated_one_even,
          show min (q + 1) (S - 1) = q + 1 by omega]
      · rw [show min (2 * q + 1 + 1) (2 * S - 1) = 2 * S - 1 by omega, interpolated_one_last hS,
          show min (q + 1) (S - 1) = S - 1 by omega]
    rw [hnext, interpolated_one_odd, show 2 ^ L * (2 * q + 1) + r = 2 ^ (L + 1) * q + (2 ^ L + r) by ring,
      interpolated_at (by rw [pow_succ]; omega)]
    push_cast
    ring

end

/-! ### One stage (R133) -/

/-- The first `n` slots hold the numbers `c`, each wrapped to 32 bits. -/
def Holds (s : State) (n : Nat) (c : Nat → Int) : Prop := ∀ q < n, s.readSlot q = BitVec.ofInt 32 (c q)

/-- Every span of slots holds its own signed values. -/
theorem holds_toInt (s : State) (n : Nat) : Holds s n fun q => (s.readSlot q).toInt :=
  fun _ _ => BitVec.ofInt_toInt.symm

/-- Stage `l` over a span of `n` slots: the last element recorded in the scratch file, the span doubled. -/
def stage (l n : Nat) (s : State) : State :=
  runStage n ((s.writeScr l (s.readSlot (n - 1))).readScr l) n (s.writeScr l (s.readSlot (n - 1)))

theorem runStages_succ (k l n : Nat) (s : State) :
    runStages (k + 1) l n s = runStages k (l + 1) (2 * n) (stage l n s) := rfl

section
variable {s : State} {l n : Nat} {c : Nat → Int}

theorem stage_scr (s : State) (l n : Nat) : (stage l n s).scr = s.scr.setIfInBounds l (s.readSlot (n - 1)) := by
  obtain ⟨m, h⟩ := runStage_frame n ((s.writeScr l (s.readSlot (n - 1))).readScr l) n
    (s.writeScr l (s.readSlot (n - 1)))
  rw [stage, h]
  rfl

/-- The right edge of stage `l` is the scratch entry just recorded, where the file has one. -/
theorem readScr_writeScr (s : State) {l : Nat} (hl : l < 16) (v : Slot) : (s.writeScr l v).readScr l = v := by
  simp [State.readScr, State.writeScr, hl]

/-- A stage is the closed form of one level: doubled elements, and between them the sums of neighbours. -/
theorem Holds.afterStage (h : Holds s n c) (hl : l < 16) : Holds (stage l n s) (2 * n) (interpolated 1 n c) := by
  intro j hj
  have hslot : ∀ q, (s.writeScr l (s.readSlot (n - 1))).readSlot q = s.readSlot q := fun _ => rfl
  rw [stage, runStage_slots _ _ _ le_rfl, if_pos hj, readScr_writeScr s hl]
  simp only [hslot]
  rcases Nat.even_or_odd' j with ⟨q, rfl | rfl⟩
  · rw [if_pos (by omega), show 2 * q / 2 = q by omega, h q (by omega), interpolated_one_even, two_mul,
      BitVec.ofInt_add]
  · have hnext : (if q = n - 1 then s.readSlot (n - 1) else s.readSlot (q + 1)) = s.readSlot (min (q + 1) (n - 1)) := by
      split
      · next hlast => rw [hlast, show min (n - 1 + 1) (n - 1) = n - 1 by omega]
      · rw [show min (q + 1) (n - 1) = q + 1 by omega]
    rw [if_neg (by omega), show (2 * q + 1) / 2 = q by omega, hnext, h q (by omega), h (min (q + 1) (n - 1)) (by omega),
      interpolated_one_odd, BitVec.ofInt_add]

/-! ### All stages (R135, R140) -/

theorem Holds.afterStages {k : Nat} (h : Holds s n c) (hn : 1 ≤ n) (hk : l + k ≤ 16) :
    Holds (runStages k l n s) (n * 2 ^ k) (interpolated k n c) := by
  induction k generalizing l n s c with
  | zero =>
    intro p hp
    rw [interpolated_zero]
    exact h p (by simpa using hp)
  | succ k ih =>
    intro p hp
    have hstage : Holds (stage l n s) (2 * n) (interpolated 1 n c) := h.afterStage (by omega)
    have hrest := ih hstage (by omega) (by omega : l + 1 + k ≤ 16)
    rw [runStages_succ, hrest p (by rwa [mul_comm 2 n, mul_assoc, ← pow_succ']), interpolated_interpolated_one hn hp]

/-- Each stage records its span's last element, which every stage before it has doubled. -/
theorem runStages_scr {k : Nat} (h : Holds s n c) (hn : 1 ≤ n) (hk : l + k ≤ 16) {i : Nat} (hi : i < 16) :
    (runStages k l n s).scr[i] =
      if l ≤ i ∧ i < l + k then BitVec.ofInt 32 (c (n - 1) * 2 ^ (i - l)) else s.scr[i] := by
  induction k generalizing l n s c with
  | zero => exact (if_neg (by omega)).symm
  | succ k ih =>
    have hstage : Holds (stage l n s) (2 * n) (interpolated 1 n c) := h.afterStage (by omega)
    have hentry : (stage l n s).scr[i] = if l = i then BitVec.ofInt 32 (c (n - 1)) else s.scr[i] := by
      simp only [stage_scr, Vector.getElem_setIfInBounds, h (n - 1) (by omega)]
    have hrest := ih hstage (by omega) (by omega : l + 1 + k ≤ 16)
    rw [← runStages_succ, interpolated_one_last hn, hentry] at hrest
    rw [hrest]
    rcases Nat.lt_trichotomy i l with hlt | rfl | hgt
    · rw [if_neg (by omega), if_neg (by omega), if_neg (by omega)]
    · rw [if_neg (by omega), if_pos rfl, if_pos (by omega), Nat.sub_self, pow_zero, mul_one]
    · obtain ⟨d, rfl⟩ := Nat.exists_eq_add_of_lt hgt
      rw [show l + d + 1 - (l + 1) = d by omega, show l + d + 1 - l = d + 1 by omega,
        show 2 * c (n - 1) * 2 ^ d = c (n - 1) * 2 ^ (d + 1) by ring]
      by_cases hin : d < k
      · rw [if_pos (by omega), if_pos (by omega)]
      · rw [if_neg (by omega), if_neg (by omega), if_neg (by omega)]

end

/-! ### DecodeData and DECODE -/

/-- R135: what DecodeData leaves of `S` coefficients. -/
theorem Holds.afterDecode {s : State} {S : Nat} {c : Nat → Int} (h : Holds s S c) (hS : 1 ≤ S)
    (hL : s.levels.toNat ≤ 16) : Holds (decodeData S s) (S * 2 ^ s.levels.toNat) (interpolated s.levels.toNat S c) :=
  h.afterStages hS (by omega)

theorem decodeData_eta (S : Nat) (s : State) :
    decodeData S s = { s with buf := (decodeData S s).buf, scr := (decodeData S s).scr } := by
  obtain ⟨m, x, h⟩ := decodeData_frame S s
  rw [h]

theorem execDecode_of_accepted {s : State} (hf : s.status.fault = false) (hd : s.status.dok = true)
    (hg : s.dGeomOK = true) (ha : s.decodeArgOK = true) :
    exec .decode s = .next ((decodeData s.arg0.toNat s).complete 1) := by
  change execDecode s = _
  simp [execDecode, hf, hd, hg, ha]

/-- Settles O42: the slots and the scratch file after all stages, for the old slots' signed values. -/
theorem decodeInterpolates : Obligations.DecodeInterpolates := by
  refine ⟨rfl, fun s hf hd hg h1 hfit => ?_⟩
  obtain ⟨-, hL, -⟩ := s.dGeomOK_iff.1 hg
  have hold := holds_toInt s s.arg0.toNat
  refine ⟨_, execDecode_of_accepted hf hd hg ((decodeArgOK_iff s).2 ⟨h1, hfit⟩), fun p hp => ?_, fun p hp => ?_,
    fun l => ?_, ?_⟩
  · exact hold.afterDecode h1 hL p hp
  · exact decodeData_slots_above _ s p (by rwa [mul_comm])
  · have hscr := runStages_scr (l := 0) hold h1 (by omega : 0 + s.levels.toNat ≤ 16) l.isLt
    simp only [Nat.zero_le, true_and, Nat.zero_add, Nat.sub_zero] at hscr
    exact hscr
  · conv_lhs => rw [decodeData_eta]
    rfl

/-! ### Coefficients within 16 bits (R139, spec/43_stream.md R155) -/

/-- Narrowing a wrapped slot to a sample wraps the number itself to 16 bits. -/
theorem setWidth_ofInt_slot (x : Int) : (BitVec.ofInt 32 x).setWidth 16 = BitVec.ofInt 16 x := by
  apply BitVec.eq_of_toNat_eq
  rw [BitVec.toNat_setWidth, BitVec.toNat_ofInt, BitVec.toNat_ofInt]
  omega

/-- Emit is the floor of the signed value over `2^L`, of which 16 bits are kept. -/
theorem emit_eq_ofInt (L : Nat) (x : Slot) : emit L x = BitVec.ofInt 16 (x.toInt / 2 ^ L) := by
  rw [emit, BitVec.sshiftRight_eq, setWidth_ofInt_slot, Int.shiftRight_eq_div_pow, Nat.cast_pow, Nat.cast_ofNat]

theorem toInt_ofInt_of_natAbs_lt {w : Nat} {x : Int} (hw : 0 < w) (hx : x.natAbs < 2 ^ (w - 1)) :
    (BitVec.ofInt w x).toInt = x := by
  have hx : (x.natAbs : Int) < 2 ^ (w - 1) := by exact_mod_cast hx
  exact BitVec.toInt_ofInt_eq_self hw (by omega) (by omega)

section
variable {L S p : Nat} {c : Nat → Int} {M : Nat}

/-- The interpolation is a mean of two coefficients with weights of sum `2^L`. -/
theorem interpolated_natAbs_le (hc : ∀ q < S, (c q).natAbs ≤ M) (hp : p < S * 2 ^ L) :
    (interpolated L S c p).natAbs ≤ M * 2 ^ L := by
  have hq : p / 2 ^ L < S := Nat.div_lt_of_lt_mul (by rwa [mul_comm])
  have hr : p % 2 ^ L < 2 ^ L := Nat.mod_lt _ (Nat.two_pow_pos L)
  have hleft := hc _ hq
  have hright := hc (min (p / 2 ^ L + 1) (S - 1))
    ((Nat.min_le_right ..).trans_lt (Nat.sub_lt (Nat.zero_lt_of_lt hq) one_pos))
  obtain ⟨d, hd⟩ := Nat.exists_eq_add_of_le hr.le
  have hweight : (2 : Int) ^ L - (p % 2 ^ L : Nat) = d := by
    rw [sub_eq_iff_eq_add', ← Nat.cast_add, ← hd, Nat.cast_pow, Nat.cast_ofNat]
  calc (interpolated L S c p).natAbs
      ≤ d * (c (p / 2 ^ L)).natAbs + p % 2 ^ L * (c (min (p / 2 ^ L + 1) (S - 1))).natAbs := by
        rw [interpolated, hweight]
        refine (Int.natAbs_add_le _ _).trans ?_
        rw [Int.natAbs_mul, Int.natAbs_mul, Int.natAbs_natCast, Int.natAbs_natCast]
    _ ≤ d * M + p % 2 ^ L * M := Nat.add_le_add (Nat.mul_le_mul_left _ hleft) (Nat.mul_le_mul_left _ hright)
    _ = M * 2 ^ L := by rw [← add_mul, add_comm d, ← hd, mul_comm]

/-- Rounded down over `2^L`, the interpolation is the left coefficient and the floor of the slope's part. -/
theorem interpolated_ediv : interpolated L S c p / 2 ^ L = c (p / 2 ^ L) +
    ((p % 2 ^ L : Nat) : Int) * (c (min (p / 2 ^ L + 1) (S - 1)) - c (p / 2 ^ L)) / 2 ^ L := by
  have hsplit : interpolated L S c p = ((p % 2 ^ L : Nat) : Int) *
      (c (min (p / 2 ^ L + 1) (S - 1)) - c (p / 2 ^ L)) + 2 ^ L * c (p / 2 ^ L) := by
    rw [interpolated]
    ring
  rw [hsplit, Int.add_mul_ediv_left _ _ (by positivity), add_comm]

/-- A number within `2^L` times 16 bits, over `2^L`, lies within 16 bits. -/
theorem natAbs_ediv_two_pow_le {x : Int} (h : x.natAbs ≤ M * 2 ^ L) : (x / 2 ^ L).natAbs ≤ M := by
  have hpos : (0 : Int) < 2 ^ L := by positivity
  have hx : -((M : Int) * 2 ^ L) ≤ x ∧ x ≤ M * 2 ^ L := by
    have : (x.natAbs : Int) ≤ M * 2 ^ L := by exact_mod_cast h
    omega
  have hlow : -(M : Int) ≤ x / 2 ^ L := (Int.le_ediv_iff_mul_le hpos).2 (by linarith [hx.1])
  have hhigh : x / 2 ^ L ≤ M := (Int.ediv_le_iff_le_mul hpos).2 (by linarith [hx.2])
  omega

end

/-- Settles O43: the bound keeps the wrapped slot and the narrowed sample exact. -/
theorem noOverflowOnUnpackedData : Obligations.NoOverflowOnUnpackedData := by
  intro s S p hS hL hc hp L c q r
  have hbound : (interpolated L S c p).natAbs ≤ 32767 * 2 ^ L := interpolated_natAbs_le hc hp
  have hpow : 2 ^ L ≤ 2 ^ 16 := Nat.pow_le_pow_right (by decide) hL
  have hslot : ((decodeData S s).readSlot p).toInt = interpolated L S c p := by
    rw [(holds_toInt s S).afterDecode hS hL p hp]
    exact toInt_ofInt_of_natAbs_lt (by decide) (hbound.trans_lt (by omega))
  have hsample : (interpolated L S c p / 2 ^ L).natAbs ≤ 32767 := natAbs_ediv_two_pow_le hbound
  refine ⟨hslot, hbound, ?_⟩
  rw [emit_eq_ofInt, hslot, toInt_ofInt_of_natAbs_lt (by decide) (Nat.lt_succ_of_le hsample), interpolated_ediv]

end Sys2Proof.Claims

/-! ## A READ with no sample pending, over an arbitrary buffer (spec/42_decoder.md R137, spec/43_stream.md R160) -/

namespace Sys2Proof.Claims

open Sys2Proof Sys2Proof.Machine

/-- The state with another buffer, scratch file and run of unwritten slots' values. -/
def withBuffer (s : State) (b : Memory Slot) (x : Vector Slot 16) (e : Nat) : State :=
  { s with buf := b, scr := x, bufEpoch := e }

section
variable (s : State) (b : Memory Slot) (x : Vector Slot 16) (e : Nat)

/-! ### BU reads its codes whatever buffer and scratch file stand beside it -/

theorem fillBits_withBuffer (w rounds : Nat) :
    fillBits w rounds (withBuffer s b x e) = withBuffer (fillBits w rounds s) b x e := by
  induction rounds generalizing s with
  | zero => rfl
  | succ rounds ih =>
    rw [fillBits, fillBits, apply_ite (withBuffer · b x e), ← ih]
    rfl

theorem fetchBits_withBuffer (w : Nat) :
    fetchBits w (withBuffer s b x e) = ((fetchBits w s).1, withBuffer (fetchBits w s).2 b x e) := by
  have hfill := fillBits_withBuffer s b x e w w
  rcases Nat.lt_or_ge (fillBits w w s).bitcnt.toNat w with h | h
  · rw [fetchBits_of_short h, fetchBits_of_short (s := withBuffer s b x e) (by rwa [hfill]), hfill]
  · rw [fetchBits_of_enough h, fetchBits_of_enough (s := withBuffer s b x e) (by rwa [hfill]), hfill]
    rfl

theorem classify_withBuffer {w : Nat} (u : BitVec w) :
    classify u (withBuffer s b x e) = ((classify u s).1, withBuffer (classify u s).2 b x e) := by
  unfold classify
  split_ifs <;> rfl

theorem readCode_withBuffer :
    readCode (withBuffer s b x e) = ((readCode s).1, withBuffer (readCode s).2 b x e) := by
  have hfetch := fetchBits_withBuffer s b x e (s.ctxWidth s.lvlptr.toNat)
  rcases hf : fetchBits (s.ctxWidth s.lvlptr.toNat) s with ⟨_ | u, s'⟩ <;> rw [hf] at hfetch
  · rw [readCode_of_none hf, readCode_of_none (s := withBuffer s b x e) hfetch]
    rfl
  · rw [readCode_of_some hf, readCode_of_some (s := withBuffer s b x e) hfetch]
    exact classify_withBuffer s' b x e u

theorem readCodes_withBuffer (n : Nat) : readCodes n (withBuffer s b x e) =
    ((readCodes n s).1, (readCodes n s).2.1, withBuffer (readCodes n s).2.2 b x e) := by
  induction n generalizing s with
  | zero => rfl
  | succ n ih =>
    rw [readCodes, readCodes, readCode_withBuffer]
    rcases readCode s with ⟨v | _ | _, s'⟩
    · simp only [ih]
    · rfl
    · rfl

end

/-! ### A block, decoded over either buffer -/

/-- The second state is the first but for its buffer and scratch file, and its unwritten slots' values are those of
reset `e`. -/
def SameButBuffer (e : Nat) (s t : State) : Prop := t = withBuffer s t.buf t.scr e

section
variable {e : Nat} {s t : State}

theorem SameButBuffer.afterWrites (h : SameButBuffer e s t) (j : Nat) (vs : List Int) :
    SameButBuffer e (s.writeSlots j vs) (t.writeSlots j vs) := by
  obtain ⟨m, hs⟩ := s.writeSlots_frame j vs
  obtain ⟨m', ht⟩ := t.writeSlots_frame j vs
  rw [SameButBuffer, hs, ht, h]
  rfl

theorem SameButBuffer.afterCodes (h : SameButBuffer e s t) (n : Nat) :
    (readCodes n t).1 = (readCodes n s).1 ∧ (readCodes n t).2.1 = (readCodes n s).2.1 ∧
      SameButBuffer e (readCodes n s).2.2 (readCodes n t).2.2 := by
  rw [h, readCodes_withBuffer]
  exact ⟨rfl, rfl, rfl⟩

theorem SameButBuffer.afterOutcome (h : SameButBuffer e s t) (o : Option Cause) :
    (blockOutcome t o).1 = (blockOutcome s o).1 ∧ SameButBuffer e (blockOutcome s o).2 (blockOutcome t o).2 := by
  rw [h]
  cases o <;> exact ⟨rfl, rfl⟩

theorem SameButBuffer.afterDecode (h : SameButBuffer e s t) (S : Nat) :
    SameButBuffer e (decodeData S s) (decodeData S t) := by
  obtain ⟨m, x, hs⟩ := decodeData_frame S s
  obtain ⟨m', x', ht⟩ := decodeData_frame S t
  rw [SameButBuffer, hs, ht, h]
  rfl

theorem getOneBlock_of_ufail (h : s.status.ufail = true) : getOneBlock s = (false, s) := if_pos h

theorem getOneBlock_of_noFail (h : s.status.ufail = false) : getOneBlock s =
    blockOutcome ((readCodes s.subblocks.toNat s).2.2.writeSlots 0 (readCodes s.subblocks.toNat s).1)
      (readCodes s.subblocks.toNat s).2.1 :=
  (if_neg (by simp [h])).trans (fillBlock_eq s.subblocks.toNat 0 s)

/-- A block succeeds or fails over either buffer, and a successful one overwrites all its coefficients. -/
theorem SameButBuffer.afterBlock (h : SameButBuffer e s t) :
    (getOneBlock t).1 = (getOneBlock s).1 ∧ SameButBuffer e (getOneBlock s).2 (getOneBlock t).2 ∧
    ((getOneBlock s).1 = true → ∀ q < s.subblocks.toNat,
      (getOneBlock t).2.readSlot q = (getOneBlock s).2.readSlot q) := by
  have hufail : t.status.ufail = s.status.ufail := by rw [h]; rfl
  have hsub : t.subblocks = s.subblocks := by rw [h]; rfl
  cases hfail : s.status.ufail
  · obtain ⟨hvalues, hcause, hcodes⟩ := h.afterCodes s.subblocks.toNat
    obtain ⟨hall, -⟩ := readCodes_length s.subblocks.toNat s
    rw [getOneBlock_of_noFail hfail, getOneBlock_of_noFail (hufail.trans hfail), hsub, hvalues, hcause]
    obtain ⟨hok, hstate⟩ := (hcodes.afterWrites 0 (readCodes s.subblocks.toNat s).1).afterOutcome
      (readCodes s.subblocks.toNat s).2.1
    refine ⟨hok, hstate, fun htrue q hq => ?_⟩
    cases hnone : (readCodes s.subblocks.toNat s).2.1 with
    | none =>
      rw [← hall hnone] at hq
      have hslot := fun u : State => u.readSlot_writeSlots 0 hq
      simp only [Nat.zero_add] at hslot
      exact (hslot _).trans (hslot _).symm
    | some c =>
      rw [hnone] at htrue
      cases htrue
  · rw [getOneBlock_of_ufail hfail, getOneBlock_of_ufail (hufail.trans hfail)]
    exact ⟨rfl, h, nofun⟩

/-- DecodeData's block is a function of its coefficients alone: its closed form names no other slot (R135). -/
theorem decodeData_readSlot_congr {S : Nat} (hL : s.levels.toNat ≤ 16) (hl : t.levels = s.levels)
    (hc : ∀ q < S, t.readSlot q = s.readSlot q) {p : Nat} (hp : p < S * 2 ^ s.levels.toNat) :
    (decodeData S t).readSlot p = (decodeData S s).readSlot p := by
  have hS : 1 ≤ S := Nat.pos_of_mul_pos_right (Nat.zero_lt_of_lt hp)
  have hold : Holds t S fun q => (s.readSlot q).toInt := fun q hq => (hc q hq).trans (holds_toInt s S q hq)
  have hslot := hold.afterDecode hS (hl ▸ hL) p (by rwa [hl])
  rw [hslot, (holds_toInt s S).afterDecode hS hL p hp, hl]

end

/-! ### Refill and READ's loop: the pending samples agree -/

/-- The counters that Refill sets over a decoded block (R151). -/
def withReady (d : State) : State :=
  { d with
    samplesReady := BitVec.ofNat 32 (min d.blockSize d.samplesLeft.toNat)
    samplesLeft := d.samplesLeft - BitVec.ofNat 32 (min d.blockSize d.samplesLeft.toNat)
    rdptr := 0 }

theorem withReady_samplesReady_toNat (d : State) :
    (withReady d).samplesReady.toNat = min d.blockSize d.samplesLeft.toNat := by
  change (BitVec.ofNat 32 _).toNat = _
  rw [BitVec.toNat_ofNat]
  exact Nat.mod_eq_of_lt ((Nat.min_le_right ..).trans_lt d.samplesLeft.isLt)

/-- Every sample that Refill makes ready lies in the block. -/
theorem withReady_slot_lt {d : State} {k : Nat} (hk : k < (withReady d).samplesReady.toNat) :
    ((withReady d).rdptr + BitVec.ofNat 20 k).toNat < d.blockSize :=
  calc ((withReady d).rdptr + BitVec.ofNat 20 k).toNat ≤ k := by simpa [withReady] using Nat.mod_le k _
    _ < min d.blockSize d.samplesLeft.toNat := hk.trans_eq (withReady_samplesReady_toNat d)
    _ ≤ d.blockSize := Nat.min_le_left ..

theorem refill_of_fail {s b : State} (h : getOneBlock s = (false, b)) : refill s = (false, b) := by
  unfold refill
  rw [h]

theorem refill_of_block {s b : State} (h : getOneBlock s = (true, b)) :
    refill s = (true, withReady (decodeData b.subblocks.toNat b)) := by
  unfold refill
  rw [h]
  rfl

/-- A block's codes and its decoding leave the geometry and the samples still due. -/
theorem decodedBlock_frame {s b : State} (h : getOneBlock s = (true, b)) :
    (decodeData b.subblocks.toNat b).blockSize = s.blockSize ∧
      (decodeData b.subblocks.toNat b).samplesLeft = s.samplesLeft := by
  obtain ⟨p, bits, c, x, l, m, f, k, hframe⟩ := getOneBlock_frame s
  rw [h] at hframe
  dsimp only at hframe
  rw [decodeData_eta, hframe]
  exact ⟨rfl, rfl⟩

/-- A refill that succeeds where samples are due makes one ready at least. -/
theorem refill_samplesReady_ne_zero {s s' : State} (hc : s.contextLegal = true) (hleft : s.samplesLeft ≠ 0)
    (h : refill s = (true, s')) : s'.samplesReady ≠ 0 := by
  obtain ⟨⟨-, -, hS, -⟩, -⟩ := (contextLegal_iff s).1 hc
  have hblock : 0 < s.blockSize := Nat.mul_pos (Nat.two_pow_pos _) hS
  rcases hs : getOneBlock s with ⟨_ | _, b⟩
  · rw [refill_of_fail hs] at h
    cases h
  · rw [refill_of_block hs] at h
    cases h
    obtain ⟨hsize, hdue⟩ := decodedBlock_frame hs
    have hready := withReady_samplesReady_toNat (decodeData b.subblocks.toNat b)
    rw [hsize, hdue] at hready
    intro hzero
    rw [hzero] at hready
    bv_omega

/-- Two states that differ in the buffer and the scratch file only, and not in the slots whose samples are pending. -/
structure SamePending (e : Nat) (s t : State) : Prop where
  rest : SameButBuffer e s t
  slots : ∀ k < s.samplesReady.toNat,
    t.readSlot (s.rdptr + BitVec.ofNat 20 k).toNat = s.readSlot (s.rdptr + BitVec.ofNat 20 k).toNat

section
variable {e : Nat} {s t : State}

/-- With no sample pending no slot is asked to agree. -/
theorem SameButBuffer.samePending (h : SameButBuffer e s t) (h0 : s.samplesReady = 0) : SamePending e s t :=
  ⟨h, fun k hk => absurd hk (by simp [h0])⟩

/-- A refill's block is the codes' alone. -/
theorem SameButBuffer.refill (h : SameButBuffer e s t) (h0 : s.samplesReady = 0) (hL : s.levels.toNat ≤ 16) :
    (Machine.refill t).1 = (Machine.refill s).1 ∧ SamePending e (Machine.refill s).2 (Machine.refill t).2 := by
  obtain ⟨hok, hstate, hslots⟩ := h.afterBlock
  obtain ⟨p, b, c, x, l, m, f, k, hframe⟩ := getOneBlock_frame s
  rcases hs : getOneBlock s with ⟨ok, bs⟩
  rcases ht : getOneBlock t with ⟨ok', bt⟩
  rw [hs] at hframe
  rw [hs, ht] at hok hstate hslots
  dsimp only at hok hstate hslots hframe
  subst hok
  cases ok'
  · rw [refill_of_fail hs, refill_of_fail ht]
    exact ⟨rfl, hstate.samePending (by rw [hframe]; exact h0)⟩
  · have hsub : bs.subblocks = s.subblocks := by rw [hframe]
    have hlevels : bs.levels = s.levels := by rw [hframe]
    have hlevels' : bt.levels = bs.levels := by rw [hstate]; rfl
    have hsub' : bt.subblocks = bs.subblocks := by rw [hstate]; rfl
    have hdecoded := hstate.afterDecode bs.subblocks.toNat
    rw [refill_of_block hs, refill_of_block ht, hsub']
    refine ⟨rfl, ?_, fun k hk => ?_⟩
    · rw [SameButBuffer, hdecoded]
      rfl
    · have hblock : (decodeData bs.subblocks.toNat bs).blockSize = bs.subblocks.toNat * 2 ^ bs.levels.toNat := by
        rw [decodeData_eta]
        exact mul_comm ..
      exact decodeData_readSlot_congr (hlevels ▸ hL) hlevels' (fun q hq => hslots rfl q (hsub ▸ hq))
        ((withReady_slot_lt hk).trans_eq hblock)

theorem emitSample_withBuffer (p : Nat) (s : State) {b : Memory Slot} {x : Vector Slot 16}
    (hslot : (withBuffer s b x e).readSlot s.rdptr.toNat = s.readSlot s.rdptr.toNat) :
    emitSample p (withBuffer s b x e) = withBuffer (emitSample p s) b x e := by
  rw [emitSample, emitSample, ← hslot]
  rfl

/-- An emission delivers the same sample from either buffer. -/
theorem SamePending.emitSample (h : SamePending e s t) (hr : s.samplesReady ≠ 0) (p : Nat) :
    SamePending e (emitSample p s) (emitSample p t) := by
  have hready : (s.samplesReady - 1).toNat + 1 = s.samplesReady.toNat := by bv_omega
  have hslot : t.readSlot s.rdptr.toNat = s.readSlot s.rdptr.toNat := by
    simpa using h.slots 0 (by omega)
  refine ⟨?_, fun k hk => ?_⟩
  · have ht := h.rest
    rw [ht] at hslot
    rw [ht, SameButBuffer, emitSample_withBuffer _ _ hslot]
    rfl
  · have hk : k < (s.samplesReady - 1).toNat := hk
    have hnext : s.rdptr + 1 + BitVec.ofNat 20 k = s.rdptr + BitVec.ofNat 20 (k + 1) := by
      rw [add_assoc, add_comm 1, BitVec.ofNat_add]
      rfl
    have := h.slots (k + 1) (by omega)
    rw [← hnext] at this
    exact this

/-- READ's loop delivers and leaves the same over either buffer. -/
theorem SamePending.readLoop (h : SamePending e s t) (hc : s.contextLegal = true) (n p : Nat) :
    (Machine.readLoop n p t).1 = (Machine.readLoop n p s).1 ∧
      SamePending e (Machine.readLoop n p s).2 (Machine.readLoop n p t).2 := by
  induction n generalizing p s t with
  | zero => exact ⟨rfl, h⟩
  | succ n ih =>
    have hready : t.samplesReady = s.samplesReady := by rw [h.rest]; rfl
    have hleft : t.samplesLeft = s.samplesLeft := by rw [h.rest]; rfl
    rw [Machine.readLoop, Machine.readLoop, hready, hleft]
    split_ifs with h0 hdone
    · exact ⟨rfl, h⟩
    · obtain ⟨⟨-, hL, -⟩, -⟩ := (contextLegal_iff s).1 hc
      obtain ⟨hok, hnext⟩ := h.rest.refill h0 hL
      have hlegal := refill_legal s hc
      rcases hs : Machine.refill s with ⟨ok, s'⟩
      rcases ht : Machine.refill t with ⟨ok', t'⟩
      rw [hs, ht] at hok hnext
      rw [hs] at hlegal
      dsimp only at hok hnext hlegal
      subst hok
      cases ok'
      · exact ⟨rfl, hnext⟩
      · exact ih (hnext.emitSample (refill_samplesReady_ne_zero hc hdone hs) p) hlegal (p + 1)
    · exact ih (h.emitSample h0 p) hc (p + 1)

end

/-! ### The command -/

theorem execRead_of_readable {s : State} (h : Readable s) : exec .read s =
    .next ((readLoop s.arg0.toNat 0 s).2.complete (BitVec.ofNat 32 (readLoop s.arg0.toNat 0 s).1)) := by
  change execRead s = _
  simp [execRead, h.noFault, h.opened, h.context]

/-- Settles O49: with nothing pending the two states differ in nothing that the loop reads. -/
theorem readIgnoresOldBuffer : Obligations.ReadIgnoresOldBuffer := by
  intro s buf scr epoch h h0
  have hsame : SameButBuffer epoch s (withBuffer s buf scr epoch) := rfl
  obtain ⟨hcount, hend⟩ := (hsame.samePending h0).readLoop h.context s.arg0.toNat 0
  have hother : Readable (withBuffer s buf scr epoch) := ⟨h.noFault, h.opened, h.context⟩
  refine ⟨_, _, execRead_of_readable h, execRead_of_readable hother, ?_⟩
  change (readLoop s.arg0.toNat 0 (withBuffer s buf scr epoch)).2.complete
    (BitVec.ofNat 32 (readLoop s.arg0.toNat 0 (withBuffer s buf scr epoch)).1) = _
  rw [hcount, hend.rest]
  rfl

end Sys2Proof.Claims

/-! ## SEQ: REFILL, READ and REWIND (spec/43_stream.md R151 to R160) -/

namespace Sys2Proof.Claims

open Sys2Proof Sys2Proof.Machine

/-! ### Emission and REWIND -/

/-- Settles O52: the arithmetic shift is a floor division of the signed value, and 16 bits of it are kept. -/
theorem emitIsFloorThenTruncate : Obligations.EmitIsFloorThenTruncate := emit_eq_ofInt

/-- What REWIND leaves of an open state (R156). -/
def rewoundState (s : State) : State :=
  { s with
    status := { s.status with ufail := false, cause := .none, err := .ok }
    result := 1
    pos := 14
    samplesReady := 0
    samplesLeft := s.samples
    rdptr := 0
    ctx := freshContext s.levels.toNat
    lvlptr := 0
    bitbuf := 0
    bitcnt := 0 }

theorem execRewind_of_noFault {s : State} (h : s.status.fault = false) :
    exec .rewind s = if s.status.opened then .next (rewoundState s) else .next (s.refuse .badState) := by
  change execRewind s = _
  cases ho : s.status.opened
  · simp [execRewind, h, ho]
  · simp only [execRewind, h, ho]
    rfl

/-- Settles O50: the two refusals stand before the effect. -/
theorem rewindRestoresTheStart : Obligations.RewindRestoresTheStart := by
  refine ⟨rfl, fun s => ⟨fun hf => if_pos hf, fun hf ho => ?_, fun hf ho => ?_⟩⟩
  · rw [execRewind_of_noFault hf, if_neg (by simp [ho])]
    rfl
  · rw [execRewind_of_noFault hf, if_pos ho]
    rfl

/-! ### Refill: its two outcomes -/

section
variable {s s' : State}

/-- A refill that fails has set UFAIL, or found it set, and leaves SEQ's counters. -/
theorem refill_fail (h : refill s = (false, s')) :
    s'.status.ufail = true ∧ s'.samplesReady = s.samplesReady ∧ s'.samplesLeft = s.samplesLeft := by
  rcases hb : getOneBlock s with ⟨_ | _, b⟩
  · have hfail := getOneBlock_fail s (by rw [hb])
    obtain ⟨p, bits, c, x, l, m, f, k, hframe⟩ := getOneBlock_frame s
    rw [refill_of_fail hb] at h
    cases h
    rw [hb] at hfail hframe
    dsimp only at hframe
    exact ⟨hfail, by rw [hframe], by rw [hframe]⟩
  · rw [refill_of_block hb] at h
    cases h

/-- A refill that succeeds moves samples from those left to those ready and loses none. -/
theorem refill_conserves (h : refill s = (true, s')) :
    s'.samplesReady.toNat + s'.samplesLeft.toNat = s.samplesLeft.toNat := by
  rcases hb : getOneBlock s with ⟨_ | _, b⟩
  · rw [refill_of_fail hb] at h
    cases h
  · rw [refill_of_block hb] at h
    cases h
    obtain ⟨-, hleft⟩ := decodedBlock_frame hb
    generalize decodeData b.subblocks.toNat b = d at hleft ⊢
    have hready := withReady_samplesReady_toNat d
    have hle : (withReady d).samplesReady ≤ d.samplesLeft := by
      rw [BitVec.le_def, hready]
      exact Nat.min_le_right ..
    have hsub : (withReady d).samplesLeft = d.samplesLeft - (withReady d).samplesReady := rfl
    rw [hsub, BitVec.toNat_sub_of_le hle, ← hleft]
    exact Nat.add_sub_cancel' hle

/-- A refill leaves the geometry, READ's base and the elements of OUT. -/
theorem refill_unchanged {ok : Bool} (h : refill s = (ok, s')) :
    s'.levels = s.levels ∧ s'.subblocks = s.subblocks ∧ s'.arg1 = s.arg1 ∧ s'.out = s.out := by
  obtain ⟨p, b, c, x, l, m, f, k, y, r, e, d, hframe⟩ := refill_frame s
  rw [h] at hframe
  dsimp only at hframe
  rw [hframe]
  exact ⟨rfl, rfl, rfl, rfl⟩

theorem execRefill_of_readable (h : Readable s) (h0 : s.samplesReady = 0) (hleft : s.samplesLeft ≠ 0) :
    exec .refill s = .next ((refill s).2.complete (boolWord (refill s).1)) := by
  have hdue : ¬s.samplesLeft = 0#32 := hleft
  change execRefill s = _
  simp [execRefill, h.noFault, h.opened, h.context, h0, hdue]

end

/-! ### READ's loop: one emission, one refill, the stop -/

section
variable {s s' : State} (n p : Nat)

/-- An emission moves one sample from those ready to OUT. -/
theorem emitSample_eta (s : State) : emitSample p s = { s with
    out := s.out.write (s.arg1 + BitVec.ofNat 32 p).toNat (emit s.levels.toNat (s.readSlot s.rdptr.toNat))
    rdptr := s.rdptr + 1
    samplesReady := s.samplesReady - 1 } := rfl

theorem emitSample_samplesReady_toNat (h : s.samplesReady ≠ 0) :
    (emitSample p s).samplesReady.toNat + 1 = s.samplesReady.toNat := by
  rw [emitSample_eta]
  bv_omega

theorem emitSample_out_other {idx : Nat} (h : idx ≠ (s.arg1 + BitVec.ofNat 32 p).toNat) :
    (emitSample p s).out.read? idx = s.out.read? idx := Memory.read?_write_other _ _ h

theorem readLoop_of_ready (h : s.samplesReady ≠ 0) : readLoop (n + 1) p s = readLoop n (p + 1) (emitSample p s) := by
  rw [readLoop, if_neg h]

/-- With no sample ready, and none left or BU failed, READ's loop stops. -/
theorem readLoop_of_stopped (h0 : s.samplesReady = 0) (h : s.samplesLeft = 0 ∨ s.status.ufail = true) :
    readLoop n p s = (p, s) := by
  cases n with
  | zero => rfl
  | succ n =>
    rw [readLoop, if_pos h0]
    split_ifs with hleft
    · rfl
    · rw [refill_of_fail (getOneBlock_of_ufail (h.resolve_left hleft))]

theorem readLoop_of_refill_fail (h0 : s.samplesReady = 0) (hleft : s.samplesLeft ≠ 0) (h : refill s = (false, s')) :
    readLoop (n + 1) p s = (p, s') := by
  rw [readLoop, if_pos h0, if_neg hleft, h]

theorem readLoop_of_refill (h0 : s.samplesReady = 0) (hleft : s.samplesLeft ≠ 0) (h : refill s = (true, s')) :
    readLoop (n + 1) p s = readLoop n (p + 1) (emitSample p s') := by
  rw [readLoop, if_pos h0, if_neg hleft, h]

end

/-! ### READ's loop: what it counts, conserves and leaves -/

section
variable (n p : Nat) (s : State)

theorem readLoop_count : p ≤ (readLoop n p s).1 ∧ (readLoop n p s).1 ≤ p + n := by
  fun_induction readLoop n p s with
  | case1 | case2 | case3 => omega
  | case4 _ _ _ _ _ _ _ ih | case5 _ _ _ _ ih => omega

/-- The loop stops short only where no sample is ready, and none is left or BU has failed (R154, R158). -/
theorem readLoop_short (h : (readLoop n p s).1 < p + n) : (readLoop n p s).2.samplesReady = 0 ∧
    ((readLoop n p s).2.samplesLeft = 0 ∨ (readLoop n p s).2.status.ufail = true) := by
  fun_induction readLoop n p s with
  | case1 => omega
  | case2 _ _ _ h0 hleft => exact ⟨h0, .inl hleft⟩
  | case3 _ _ _ h0 _ _ hr =>
    obtain ⟨hfail, hready, -⟩ := refill_fail hr
    exact ⟨hready.trans h0, .inr hfail⟩
  | case4 _ _ _ _ _ _ _ ih | case5 _ _ _ _ ih => exact ih (by omega)

/-- Every sample leaves the counters as it is produced. -/
theorem readLoop_conserves (hc : s.contextLegal = true) :
    (readLoop n p s).1 + (readLoop n p s).2.samplesReady.toNat + (readLoop n p s).2.samplesLeft.toNat =
      p + s.samplesReady.toNat + s.samplesLeft.toNat := by
  fun_induction readLoop n p s with
  | case1 | case2 => rfl
  | case3 _ _ _ _ _ _ hr =>
    obtain ⟨-, hready, hleft⟩ := refill_fail hr
    rw [hready, hleft]
  | case4 n p s h0 hleft s' hr ih =>
    have hlegal : s'.contextLegal = true := by simpa [hr] using refill_legal s hc
    have hemit := emitSample_samplesReady_toNat p (refill_samplesReady_ne_zero hc hleft hr)
    have hmoved := refill_conserves hr
    have hdue : (emitSample p s').samplesLeft = s'.samplesLeft := rfl
    have hzero : s.samplesReady.toNat = 0 := congrArg BitVec.toNat h0
    rw [ih hlegal, hdue]
    omega
  | case5 n p s h0 ih =>
    have hemit := emitSample_samplesReady_toNat p h0
    have hdue : (emitSample p s).samplesLeft = s.samplesLeft := rfl
    rw [ih hc, hdue]
    omega

/-- The loop writes no element of OUT but those of the samples it produces. -/
theorem readLoop_out_other {idx : Nat}
    (h : ∀ k, p ≤ k → k < (readLoop n p s).1 → idx ≠ (s.arg1 + BitVec.ofNat 32 k).toNat) :
    (readLoop n p s).2.out.read? idx = s.out.read? idx := by
  fun_induction readLoop n p s with
  | case1 | case2 => rfl
  | case3 _ _ _ _ _ _ hr =>
    obtain ⟨-, -, -, hout⟩ := refill_unchanged hr
    rw [hout]
  | case4 n p _ _ _ s' hr ih =>
    obtain ⟨-, -, harg, hout⟩ := refill_unchanged hr
    obtain ⟨hproduced, -⟩ := readLoop_count n (p + 1) (emitSample p s')
    rw [← harg] at h
    rw [ih fun k hk => h k (by omega), emitSample_out_other p (h p le_rfl hproduced), hout]
  | case5 n p s _ ih =>
    obtain ⟨hproduced, -⟩ := readLoop_count n (p + 1) (emitSample p s)
    rw [ih fun k hk => h k (by omega), emitSample_out_other p (h p le_rfl hproduced)]

/-- The loop writes no slot past the block. -/
theorem readLoop_slots_above {i : Nat} (h : s.blockSize ≤ i) : (readLoop n p s).2.readSlot i = s.readSlot i := by
  fun_induction readLoop n p s with
  | case1 | case2 => rfl
  | case3 _ _ s _ _ s' hr => simpa [hr] using refill_slots s i h
  | case4 _ p s _ _ s' hr ih =>
    obtain ⟨hlevels, hsub, -, -⟩ := refill_unchanged hr
    have hslot := refill_slots s i h
    rw [hr] at hslot
    have hsize : (emitSample p s').blockSize = s.blockSize := by
      rw [State.blockSize, State.blockSize, ← hlevels, ← hsub]
      rfl
    exact (ih (hsize ▸ h)).trans hslot
  | case5 _ _ _ _ ih => exact ih h

end

theorem rdptr_add_succ (d : BitVec 20) (k : Nat) : d + 1 + BitVec.ofNat 20 k = d + BitVec.ofNat 20 (k + 1) := by
  rw [add_assoc, add_comm 1, BitVec.ofNat_add]
  rfl

/-- The loop over samples that are ready only: they go to OUT in turn, each element written once. -/
theorem readLoop_of_enough_ready {n p : Nat} {s : State} (hn : n ≤ s.samplesReady.toNat) (hp : p + n ≤ 2 ^ 32) : ∃ o,
    readLoop n p s = (p + n, { s with
      out := o, rdptr := s.rdptr + BitVec.ofNat 20 n, samplesReady := s.samplesReady - BitVec.ofNat 32 n }) ∧
    ∀ k < n, o.read? (s.arg1 + BitVec.ofNat 32 (p + k)).toNat =
      some (emit s.levels.toNat (s.readSlot (s.rdptr + BitVec.ofNat 20 k).toNat)) := by
  induction n generalizing p s with
  | zero => exact ⟨s.out, by simp [readLoop], nofun⟩
  | succ n ih =>
    have hne : s.samplesReady ≠ 0 := by
      intro h0
      rw [h0] at hn
      exact absurd hn (by simp)
    have hemit := emitSample_samplesReady_toNat p hne
    obtain ⟨o, hloop, hout⟩ := ih (p := p + 1) (s := emitSample p s) (by omega) (by omega)
    have hfirst := readLoop_out_other n (p + 1) (emitSample p s)
      (idx := (s.arg1 + BitVec.ofNat 32 p).toNat) fun k hk hlt => by
        rw [hloop] at hlt
        change _ ≠ (s.arg1 + BitVec.ofNat 32 k).toNat
        bv_omega
    rw [hloop] at hfirst
    refine ⟨o, ?_, fun k hk => ?_⟩
    · have hready : s.samplesReady - 1 - BitVec.ofNat 32 n = s.samplesReady - BitVec.ofNat 32 (n + 1) := by bv_omega
      rw [readLoop_of_ready n p hne, hloop, ← rdptr_add_succ, ← hready, Nat.add_right_comm]
      rfl
    · cases k with
      | zero =>
        rw [Nat.add_zero, hfirst, emitSample_eta, Memory.read?_write_same]
        simp
      | succ k =>
        have hslot := hout k (Nat.lt_of_succ_lt_succ hk)
        rw [← rdptr_add_succ, show p + (k + 1) = p + 1 + k by omega]
        exact hslot

/-! ### READ -/

/-- The completion of READ over what its loop answers. -/
def finishRead (r : Nat × State) : State := r.2.complete (BitVec.ofNat 32 r.1)

theorem readNeedsCodes_iff (s : State) : s.readNeedsCodes = true ↔
    s.samplesReady.toNat < s.arg0.toNat ∧ s.samplesLeft ≠ 0 ∧ s.status.ufail = false := by
  simp [State.readNeedsCodes, and_assoc]

/-- READ asks for a context only where it will read a code. -/
theorem execRead_of_opened {s : State} (hf : s.status.fault = false) (ho : s.status.opened = true)
    (hc : s.readNeedsCodes = true → s.contextLegal = true) :
    exec .read s = .next (finishRead (readLoop s.arg0.toNat 0 s)) := by
  change execRead s = _
  cases hn : s.readNeedsCodes
  · simp [execRead, hf, ho, hn, finishRead]
  · simp [execRead, hf, ho, hn, hc hn, finishRead]

/-- READ's count fits RESULT. -/
theorem readLoop_arg0_count (s : State) : (BitVec.ofNat 32 (readLoop s.arg0.toNat 0 s).1).toNat =
    (readLoop s.arg0.toNat 0 s).1 := by
  obtain ⟨-, hle⟩ := readLoop_count s.arg0.toNat 0 s
  have := s.arg0.isLt
  rw [BitVec.toNat_ofNat, Nat.mod_eq_of_lt (by omega)]

/-- Settles O45: the loop has no round to run, or stops at once. -/
theorem readOfNothingChangesNothing : Obligations.ReadOfNothingChangesNothing := by
  intro s hf ho h
  have hcodes : ¬s.readNeedsCodes = true := by
    rw [readNeedsCodes_iff]
    rintro ⟨hlt, hleft, hfail⟩
    rcases h with h | ⟨-, h | h⟩
    · rw [h] at hlt
      exact Nat.not_lt_zero _ hlt
    · exact hleft h
    · exact absurd (hfail.symm.trans h) nofun
  have hloop : readLoop s.arg0.toNat 0 s = (0, s) := by
    rcases h with h | ⟨h0, h⟩
    · rw [h]
      rfl
    · exact readLoop_of_stopped _ 0 h0 h
  rw [execRead_of_opened hf ho fun hn => absurd hn hcodes, hloop]
  rfl

/-- Settles O46: with enough samples ready the loop emits only. -/
theorem readDeliversReadySamples : Obligations.ReadDeliversReadySamples := by
  intro s hf ho hn
  have hcodes : ¬s.readNeedsCodes = true := fun h => absurd ((readNeedsCodes_iff s).1 h).1 (Nat.not_lt.2 hn)
  obtain ⟨o, hloop, hout⟩ := readLoop_of_enough_ready (p := 0) hn (by omega)
  refine ⟨_, execRead_of_opened hf ho fun h => absurd h hcodes, fun k hk => ?_, fun idx hidx => ?_, ?_⟩
  · have hslot := hout k hk
    rw [Nat.zero_add] at hslot
    rw [hloop]
    exact hslot
  · refine readLoop_out_other s.arg0.toNat 0 s fun k _ hk => hidx k ?_
    rw [hloop] at hk
    omega
  · rw [hloop]
    simp [finishRead, State.complete]

/-- Settles O47: each clause is one of the loop's. -/
theorem readConservesSamples : Obligations.ReadConservesSamples := by
  refine ⟨rfl, fun s h => ?_⟩
  have hresult := readLoop_arg0_count s
  obtain ⟨-, hle⟩ := readLoop_count s.arg0.toNat 0 s
  have hsum := readLoop_conserves s.arg0.toNat 0 s h.context
  obtain ⟨p, b, c, x, l, m, f, k, y, r, e, d, o, hframe⟩ := readLoop_frame s.arg0.toNat 0 s
  refine ⟨_, execRead_of_readable h, ?_, ?_, fun hlt => ?_, fun idx hidx => ?_, fun i hi => ?_, ?_, ?_⟩
  · rw [State.complete_result, hresult]
    omega
  · rw [State.complete_result, hresult]
    exact hsum.trans (by omega)
  · rw [State.complete_result, hresult] at hlt
    exact readLoop_short s.arg0.toNat 0 s (by omega)
  · rw [State.complete_result, hresult] at hidx
    exact readLoop_out_other s.arg0.toNat 0 s fun k _ hk => hidx k hk
  · exact readLoop_slots_above s.arg0.toNat 0 s hi
  · rw [hframe]
    rfl
  · rw [hframe]
    rfl

end Sys2Proof.Claims

/-! ## What READ's loop does not look at: REFILL, READ and REWIND in sequence (spec/43_stream.md R151, R152, R159, R160)

The blocks' codes, their decoding, the refills and the emissions run over BU's, RE's and SEQ's own fields, the stream and
OUT. `withRest` replaces all the others, and READ's loop commutes with it. -/

namespace Sys2Proof.Claims

open Sys2Proof Sys2Proof.Machine

/-! ### The loop commutes with replacing the other fields -/

/-- The state with every field that READ's loop does not look at taken from `h`, and the loop's base ARG1 with them. -/
def withRest (s h : State) : State :=
  { h with
    status := { h.status with ufail := s.status.ufail, cause := s.status.cause }
    levels := s.levels
    subblocks := s.subblocks
    samplesLeft := s.samplesLeft
    samplesReady := s.samplesReady
    rdptr := s.rdptr
    pos := s.pos
    bitbuf := s.bitbuf
    bitcnt := s.bitcnt
    lvlptr := s.lvlptr
    ctx := s.ctx
    scr := s.scr
    buf := s.buf
    stream := s.stream
    out := s.out
    bufEpoch := s.bufEpoch }

section
variable (s h : State)

theorem fillBits_withRest (w rounds : Nat) : fillBits w rounds (withRest s h) = withRest (fillBits w rounds s) h := by
  induction rounds generalizing s with
  | zero => rfl
  | succ rounds ih =>
    rw [fillBits, fillBits, apply_ite (withRest · h), ← ih]
    rfl

theorem fetchBits_withRest (w : Nat) :
    fetchBits w (withRest s h) = ((fetchBits w s).1, withRest (fetchBits w s).2 h) := by
  have hfill := fillBits_withRest s h w w
  rcases Nat.lt_or_ge (fillBits w w s).bitcnt.toNat w with hw | hw
  · rw [fetchBits_of_short hw, fetchBits_of_short (s := withRest s h) (by rwa [hfill]), hfill]
  · rw [fetchBits_of_enough hw, fetchBits_of_enough (s := withRest s h) (by rwa [hfill]), hfill]
    rfl

theorem classify_withRest {w : Nat} (u : BitVec w) :
    classify u (withRest s h) = ((classify u s).1, withRest (classify u s).2 h) := by
  unfold classify
  split_ifs <;> rfl

theorem readCode_withRest : readCode (withRest s h) = ((readCode s).1, withRest (readCode s).2 h) := by
  have hfetch := fetchBits_withRest s h (s.ctxWidth s.lvlptr.toNat)
  rcases hf : fetchBits (s.ctxWidth s.lvlptr.toNat) s with ⟨_ | u, s'⟩ <;> rw [hf] at hfetch
  · rw [readCode_of_none hf, readCode_of_none (s := withRest s h) hfetch]
    rfl
  · rw [readCode_of_some hf, readCode_of_some (s := withRest s h) hfetch]
    exact classify_withRest s' h u

theorem fillBlock_withRest (n j : Nat) :
    fillBlock n j (withRest s h) = ((fillBlock n j s).1, withRest (fillBlock n j s).2 h) := by
  induction n generalizing j s with
  | zero => rfl
  | succ n ih =>
    rw [fillBlock, fillBlock, readCode_withRest]
    rcases readCode s with ⟨v | _ | _, s'⟩
    · exact ih (s'.writeSlot j (slotOfValue v)) (j + 1)
    · rfl
    · rfl

theorem getOneBlock_withRest :
    getOneBlock (withRest s h) = ((getOneBlock s).1, withRest (getOneBlock s).2 h) := by
  cases hfail : s.status.ufail
  · have hblock := fillBlock_withRest s h s.subblocks.toNat 0
    have hstart : ∀ t : State, t.status.ufail = false → getOneBlock t = fillBlock t.subblocks.toNat 0 t :=
      fun t ht => if_neg (by simp [ht])
    rw [hstart s hfail, hstart (withRest s h) hfail]
    exact hblock
  · rw [getOneBlock_of_ufail hfail, getOneBlock_of_ufail (s := withRest s h) hfail]

theorem runStage_withRest (n : Nat) (edge : Slot) (k : Nat) :
    runStage n edge k (withRest s h) = withRest (runStage n edge k s) h := by
  induction k generalizing s with
  | zero => rfl
  | succ k ih => exact ih (pairStep n edge k s)

theorem runStages_withRest (k l n : Nat) : runStages k l n (withRest s h) = withRest (runStages k l n s) h := by
  induction k generalizing l n s with
  | zero => rfl
  | succ k ih =>
    rw [runStages_succ, runStages_succ, ← ih]
    exact congrArg _ (runStage_withRest (s.writeScr l (s.readSlot (n - 1))) h n _ n)

theorem decodeData_withRest (S : Nat) : decodeData S (withRest s h) = withRest (decodeData S s) h :=
  runStages_withRest s h s.levels.toNat 0 S

theorem refill_withRest : refill (withRest s h) = ((refill s).1, withRest (refill s).2 h) := by
  have hblock := getOneBlock_withRest s h
  rcases hb : getOneBlock s with ⟨_ | _, b⟩ <;> rw [hb] at hblock
  · rw [refill_of_fail hb, refill_of_fail hblock]
  · have hdecoded := decodeData_withRest b h b.subblocks.toNat
    rw [refill_of_block hb, refill_of_block hblock]
    change (true, withReady (decodeData b.subblocks.toNat (withRest b h))) = _
    rw [hdecoded]
    rfl

theorem emitSample_withRest {p q : Nat} (hbase : h.arg1 + BitVec.ofNat 32 q = s.arg1 + BitVec.ofNat 32 p) :
    emitSample q (withRest s h) = withRest (emitSample p s) h := by
  have harg : (withRest s h).arg1 = h.arg1 := rfl
  rw [emitSample_eta, emitSample_eta, harg, hbase]
  rfl

/-- A run of the loop from base `h.arg1` and `q` samples produced answers what one from `p` samples does: as many more
samples, and the same state but for the fields of `h`. -/
structure ShiftedRun (p q : Nat) (r r' : Nat × State) : Prop where
  count : r'.1 + p = r.1 + q
  state : r'.2 = withRest r.2 h

/-- From another base, with the samples produced counted to match, the loop runs the same. -/
theorem readLoop_withRest (n : Nat) {p q : Nat} (hbase : h.arg1 + BitVec.ofNat 32 q = s.arg1 + BitVec.ofNat 32 p) :
    ShiftedRun h p q (readLoop n p s) (readLoop n q (withRest s h)) := by
  induction n generalizing p q s with
  | zero => exact ⟨Nat.add_comm .., rfl⟩
  | succ n ih =>
    have hemit : ∀ u : State, u.arg1 = s.arg1 → ShiftedRun h p q (readLoop n (p + 1) (emitSample p u))
        (readLoop n (q + 1) (emitSample q (withRest u h))) := fun u hu => by
      rw [← hu] at hbase
      have hnext : h.arg1 + BitVec.ofNat 32 (q + 1) = u.arg1 + BitVec.ofNat 32 (p + 1) := by
        rw [BitVec.ofNat_add, BitVec.ofNat_add, ← add_assoc, ← add_assoc, hbase]
      obtain ⟨hcount, hstate⟩ := ih (emitSample p u) hnext
      rw [emitSample_withRest u h hbase]
      exact ⟨by omega, hstate⟩
    by_cases h0 : s.samplesReady = 0
    · by_cases hleft : s.samplesLeft = 0
      · rw [readLoop_of_stopped _ p h0 (.inl hleft), readLoop_of_stopped (s := withRest s h) _ q h0 (.inl hleft)]
        exact ⟨Nat.add_comm .., rfl⟩
      · have hrefill := refill_withRest s h
        rcases hs : refill s with ⟨_ | _, s'⟩ <;> rw [hs] at hrefill
        · rw [readLoop_of_refill_fail n p h0 hleft hs, readLoop_of_refill_fail (s := withRest s h) n q h0 hleft hrefill]
          exact ⟨Nat.add_comm .., rfl⟩
        · obtain ⟨-, -, harg, -⟩ := refill_unchanged hs
          rw [readLoop_of_refill n p h0 hleft hs, readLoop_of_refill (s := withRest s h) n q h0 hleft hrefill]
          exact hemit s' harg
    · rw [readLoop_of_ready n p h0, readLoop_of_ready (s := withRest s h) n q h0]
      exact hemit s rfl

end

/-! ### REFILL and the commands it is made of -/

section
variable {s b : State}

/-- DECODE of SUBBLOCKS coefficients passes its checks over every legal context. -/
theorem execDecode_of_legal (hf : s.status.fault = false) (hd : s.status.dok = true) (hc : s.contextLegal = true)
    (harg : s.arg0 = s.subblocks.setWidth 32) :
    exec .decode s = .next ((decodeData s.subblocks.toNat s).complete 1) := by
  have hgeom : s.dGeomOK = true := dGeomOK_of_uGeomOK (uGeomOK_of_legal hc)
  obtain ⟨-, -, hS, hfit⟩ := s.dGeomOK_iff.1 hgeom
  have hcount : s.arg0.toNat = s.subblocks.toNat := by
    rw [harg]
    exact BitVec.toNat_setWidth_of_le (by decide)
  rw [mul_comm, ← hcount] at hfit
  rw [execDecode_of_accepted hf hd hgeom ((decodeArgOK_iff s).2 ⟨hcount ▸ hS, hfit⟩), hcount]

/-- DECODE of the block that GETBLK has read runs Refill's DecodeData. -/
theorem execDecode_of_block {t : State} (h : Readable s) (hd : s.status.dok = true) (hb : getOneBlock s = (true, b))
    (ht : t = { b.complete 1 with arg0 := s.subblocks.setWidth 32 }) :
    exec .decode t = .next ((withRest (decodeData b.subblocks.toNat b) t).complete 1) := by
  have hlegal := getOneBlock_legal s h.context
  obtain ⟨p, bits, c, x, l, m, f, k, hframe⟩ := getOneBlock_frame s
  rw [hb] at hframe hlegal
  dsimp only at hframe
  have hrest : t = withRest b t := by rw [ht]; rfl
  have hsub : t.subblocks = b.subblocks := by rw [hrest]; rfl
  have hfault : t.status.fault = s.status.fault := by rw [ht, hframe]; rfl
  have hdok : t.status.dok = s.status.dok := by rw [ht, hframe]; rfl
  have hcontext : t.contextLegal = true := by rw [ht]; exact hlegal
  have harg : t.arg0 = t.subblocks.setWidth 32 := by rw [ht, hframe]; rfl
  rw [execDecode_of_legal (hfault.trans h.noFault) (hdok.trans hd) hcontext harg, hsub, ← decodeData_withRest, ← hrest]

theorem execRefill_withRest {h : State} (hs : Readable s) (hf : h.status.fault = false) (ho : h.status.opened = true)
    (h0 : s.samplesReady = 0) (hleft : s.samplesLeft ≠ 0) : exec .refill (withRest s h) =
      .next ((withRest (refill s).2 h).complete (boolWord (refill s).1)) := by
  rw [execRefill_of_readable (s := withRest s h) ⟨hf, ho, hs.context⟩ h0 hleft, refill_withRest]

/-- Settles O44: REFILL's block is GETBLK's, decoded as DECODE decodes it. -/
theorem refillIsGetblkThenDecode : Obligations.RefillIsGetblkThenDecode := by
  refine ⟨rfl, fun s h h0 hleft => ⟨fun hu hd => ?_, ?_⟩⟩
  · refine ⟨_, _, execGetblk_of_uok h.noFault hu fun _ => h.context, execRefill_of_readable h h0 hleft, ?_⟩
    rcases hb : getOneBlock s with ⟨_ | _, b⟩
    · rw [refill_of_fail hb]
      exact ⟨fun _ => rfl, fun hne => absurd rfl hne⟩
    · refine ⟨nofun, fun _ => ⟨_, execDecode_of_block h hd hb rfl, ?_⟩⟩
      obtain ⟨p, bits, c, x, l, m, f, k, hframe⟩ := getOneBlock_frame s
      rw [hb] at hframe
      dsimp only at hframe
      rw [refill_of_block hb, hframe, decodeData_eta]
      rfl
  · obtain ⟨p, b, c, x, l, m, f, k, y, r, e, d, hframe⟩ := refill_frame s
    refine ⟨_, _, execRefill_of_readable h h0 hleft, execRefill_withRest
      (h := { s with status := { s.status with uok := true, dok := true } }) h h.noFault h.opened h0 hleft, ?_⟩
    rw [hframe]
    rfl

end

/-! ### READ after REFILL, after READ, after REWIND -/

section
variable {s : State}

theorem Readable.withArgs (h : Readable s) (count base : Word) : Readable (withArgs s count base) :=
  ⟨h.noFault, h.opened, h.context⟩

theorem Readable.withRest (hs : Readable s) {h : State} (hf : h.status.fault = false) (ho : h.status.opened = true) :
    Readable (withRest s h) := ⟨hf, ho, hs.context⟩

theorem Readable.afterRefill (h : Readable s) (v : Word) : Readable ((refill s).2.complete v) := by
  have hlegal := refill_legal s h.context
  obtain ⟨p, b, c, x, l, m, f, k, y, r, e, d, hframe⟩ := refill_frame s
  rw [hframe] at hlegal ⊢
  exact ⟨h.noFault, h.opened, hlegal⟩

theorem Readable.afterLoop (h : Readable s) (n p : Nat) : Readable (readLoop n p s).2 := by
  have hlegal := readLoop_legal n p s h.context
  obtain ⟨q, b, c, x, l, m, f, k, y, r, e, d, o, hframe⟩ := readLoop_frame n p s
  rw [hframe] at hlegal ⊢
  exact ⟨h.noFault, h.opened, hlegal⟩

/-- READ answers RESULT and ERR itself, so what the command before it answered is not seen after it. -/
theorem finishRead_readLoop_complete (n p : Nat) (s : State) (v : Word) :
    finishRead (readLoop n p (s.complete v)) = finishRead (readLoop n p s) := by
  obtain ⟨hcount, hstate⟩ := readLoop_withRest s (s.complete v) n (p := p) (q := p) rfl
  obtain ⟨q, b, c, x, l, m, f, k, y, r, e, d, o, hframe⟩ := readLoop_frame n p s
  change finishRead (readLoop n p (withRest s (s.complete v))) = _
  rw [finishRead, hstate, Nat.add_right_cancel hcount, finishRead, hframe]
  rfl

/-- Settles O58: a READ's first round over an empty block is REFILL's own. -/
theorem readIsRefillThenRead : Obligations.ReadIsRefillThenRead := by
  intro s h h0 hleft hn
  obtain ⟨n, hn⟩ : ∃ n, s.arg0.toNat = n + 1 := Nat.exists_eq_succ_of_ne_zero (by bv_omega)
  have hread := execRead_of_readable h
  have hafter := h.afterRefill (boolWord (refill s).1)
  obtain ⟨p, b, c, x, l, m, f, k, y, r, e, d, hframe⟩ := refill_frame s
  have harg : (refill s).2.arg0 = s.arg0 := by rw [hframe]
  rw [hn] at hread
  rcases hr : refill s with ⟨_ | _, s'⟩ <;> rw [hr] at hafter harg
  · obtain ⟨hfail, hready, -⟩ := refill_fail hr
    rw [readLoop_of_refill_fail n 0 h0 hleft hr] at hread
    refine ⟨s'.complete 0, s'.complete 0, ?_, ?_, hread, fun _ => rfl⟩
    · rw [execRefill_of_readable h h0 hleft, hr]
      rfl
    · exact readOfNothingChangesNothing (s'.complete 0) hafter.noFault hafter.opened
        (.inr ⟨hready.trans h0, .inr hfail⟩)
  · have hready := refill_samplesReady_ne_zero h.context hleft hr
    rw [readLoop_of_refill n 0 h0 hleft hr, ← readLoop_of_ready n 0 hready] at hread
    refine ⟨s'.complete 1, _, ?_, execRead_of_readable hafter, ?_, nofun⟩
    · rw [execRefill_of_readable h h0 hleft, hr]
      rfl
    · have hsame := finishRead_readLoop_complete (n + 1) 0 s' 1
      rw [← hn, ← harg] at hsame
      rw [← hn, ← harg] at hread
      exact hread.trans (congrArg Host.Outcome.next hsame.symm)

/-- The loop over `m + n` samples is the loop over `m`, gone on with from where it stopped. -/
theorem readLoop_resume (m n p : Nat) (s : State) :
    readLoop (m + n) p s = readLoop n (readLoop m p s).1 (readLoop m p s).2 := by
  rw [readLoop_add]
  split_ifs with hshort
  · obtain ⟨hready, hend⟩ := readLoop_short m p s hshort
    rw [readLoop_of_stopped n _ hready hend]
  · obtain ⟨-, hle⟩ := readLoop_count m p s
    rw [show p + m = (readLoop m p s).1 by omega]

/-- READ from a base moved on by `p` elements runs the loop as if `p` samples had been produced before it. -/
theorem execRead_withRest {h : State} (hs : Readable s) (hf : h.status.fault = false) (ho : h.status.opened = true)
    {p : Nat} (hbase : h.arg1 = s.arg1 + BitVec.ofNat 32 p) : exec .read (withRest s h) =
      .next ((withRest (readLoop h.arg0.toNat p s).2 h).complete
        (BitVec.ofNat 32 ((readLoop h.arg0.toNat p s).1 - p))) := by
  obtain ⟨hcount, hstate⟩ := readLoop_withRest s h h.arg0.toNat (p := p) (q := 0) (by rw [hbase]; exact add_zero _)
  have hread : exec .read (withRest s h) = .next (finishRead (readLoop h.arg0.toNat 0 (withRest s h))) :=
    execRead_of_readable (hs.withRest hf ho)
  rw [hread, finishRead, hstate, Nat.eq_sub_of_add_eq hcount, Nat.add_zero]

/-- A READ that follows a READ, from the base where that stopped, goes on with its loop. -/
theorem execRead_afterRead {t : State} {n produced : Nat} (h : Readable s) (ht : readLoop n 0 s = (produced, t))
    (count : Word) : exec .read (withArgs (finishRead (produced, t)) count (s.arg1 + BitVec.ofNat 32 produced)) =
      .next ((withRest (readLoop count.toNat produced t).2
        (withArgs (finishRead (produced, t)) count (s.arg1 + BitVec.ofNat 32 produced))).complete
          (BitVec.ofNat 32 ((readLoop count.toNat produced t).1 - produced))) := by
  have hafter := h.afterLoop n 0
  obtain ⟨q, b, c, x, l, m, f, k, y, r, e, d, o, hframe⟩ := readLoop_frame n 0 s
  rw [ht] at hafter hframe
  have harg : t.arg1 = s.arg1 := by rw [show t = _ from hframe]
  exact execRead_withRest (h := withArgs (finishRead (produced, t)) count (s.arg1 + BitVec.ofNat 32 produced))
    hafter hafter.noFault hafter.opened (by rw [harg]; rfl)

/-- Settles O48: the joined READ's loop is the first READ's, gone on with by the second's. -/
theorem partialReadsConcatenate : Obligations.PartialReadsConcatenate := by
  intro s n1 n2 base h hfit
  have hfirst : exec .read (withArgs s n1 base) = .next (finishRead (readLoop n1.toNat 0 (withArgs s n1 base))) :=
    execRead_of_readable (h.withArgs n1 base)
  have hjoined : exec .read (withArgs s (n1 + n2) base) =
      .next ((withRest (readLoop (n1 + n2).toNat 0 (withArgs s n1 base)).2 (withArgs s (n1 + n2) base)).complete
        (BitVec.ofNat 32 (readLoop (n1 + n2).toNat 0 (withArgs s n1 base)).1)) :=
    execRead_withRest (h := withArgs s (n1 + n2) base) (p := 0) (h.withArgs n1 base) h.noFault h.opened
      (add_zero base).symm
  rw [BitVec.toNat_add_of_lt hfit, readLoop_resume] at hjoined
  obtain ⟨q, b, c, x, l, m, f, k, y, r, e, d, o, hframe⟩ := readLoop_frame n1.toNat 0 (withArgs s n1 base)
  rcases ht : readLoop n1.toNat 0 (withArgs s n1 base) with ⟨produced, t⟩
  rw [ht] at hfirst hjoined hframe
  dsimp only at hjoined hframe
  refine ⟨_, _, _, hfirst, execRead_afterRead (h.withArgs n1 base) ht n2, hjoined, ?_, ?_⟩
  · obtain ⟨hle, -⟩ := readLoop_count n2.toNat produced t
    change BitVec.ofNat 32 (readLoop n2.toNat produced t).1 =
      BitVec.ofNat 32 produced + BitVec.ofNat 32 ((readLoop n2.toNat produced t).1 - produced)
    rw [← BitVec.ofNat_add, Nat.add_sub_cancel' hle]
  · rw [hframe]
    rfl

/-- What a READ delivers with no sample pending depends on no buffer, no scratch file and none of the fields of
`withRest` but its operands (R137, R160). -/
theorem execRead_congr {t v : State} (ht : Readable t) (hf : v.status.fault = false) (ho : v.status.opened = true)
    (h0 : t.samplesReady = 0) (hcount : v.arg0 = t.arg0) (hbase : v.arg1 = t.arg1)
    (hv : v = withRest (withBuffer t v.buf v.scr v.bufEpoch) v) :
    ∃ t' v', exec .read t = .next t' ∧ exec .read v = .next v' ∧ t'.result = v'.result ∧ t'.out = v'.out ∧
      t'.samplesLeft = v'.samplesLeft ∧ t'.samplesReady = v'.samplesReady ∧ t'.status.ufail = v'.status.ufail := by
  have hsame : SameButBuffer v.bufEpoch t (withBuffer t v.buf v.scr v.bufEpoch) := rfl
  obtain ⟨hproduced, hend⟩ := (hsame.samePending h0).readLoop ht.context t.arg0.toNat 0
  have hother : Readable (withBuffer t v.buf v.scr v.bufEpoch) := ⟨ht.noFault, ht.opened, ht.context⟩
  have hread := execRead_withRest (p := 0) hother hf ho (hbase.trans (add_zero t.arg1).symm)
  rw [← hv, hcount, hend.rest, hproduced] at hread
  exact ⟨_, _, execRead_of_readable ht, hread, rfl, rfl, rfl, rfl, rfl⟩

theorem openedState_legal (n c r : Nat) {g : Nat} (hg : g < 2 ^ 16) (hgood : GoodGeometry s g) :
    (openedState s n c r g).contextLegal = true := by
  obtain ⟨hgeom, -⟩ := Bool.and_eq_true_iff.1 ((parsedState_accepted_iff (n := n) (c := c) (r := r) hg).2 hgood)
  rw [← initialised_parsedState hg]
  exact Safety.unpackerReset_legal hgeom

/-- A rewound state is the opened one over the same stream, but for what a READ of nothing pending does not look at. -/
theorem rewoundState_eq {u : State} {n c r g : Nat} (count base : Word) (out : Memory Sample) (hg : g < 2 ^ 16)
    (hstream : u.stream = s.stream) (hsamples : u.samples = BitVec.ofNat 32 n)
    (hlevels : u.levels = BitVec.ofNat 12 (g / 16)) (hsub : u.subblocks = BitVec.ofNat 4 (g % 16)) :
    { withArgs (rewoundState u) count base with out := out } =
      withRest (withBuffer { withArgs (openedState s n c r g) count base with out := out } u.buf u.scr u.bufEpoch)
        { withArgs (rewoundState u) count base with out := out } := by
  have hL : (BitVec.ofNat 12 (g / 16)).toNat = g / 16 := geometryLevels_toNat hg
  simp only [withRest, withBuffer, withArgs, openedState, rewoundState, hL, hstream, hsamples, hlevels, hsub]

/-- Settles O51: REWIND leaves what OPEN leaves, as far as the READ looks. -/
theorem rewindEqualsFreshOpen : Obligations.RewindEqualsFreshOpen := by
  intro s u n c r g count base out hf ho hsize hheader hgood huf huo hstream hsamples hlevels hsub
  have hg := geometryWord_lt hheader
  have hopened : Readable { withArgs (openedState s n c r g) count base with out := out } :=
    ⟨hf, rfl, openedState_legal n c r hg hgood⟩
  have hrewound : exec .rewind u = .next (rewoundState u) := (execRewind_of_noFault huf).trans (if_pos huo)
  obtain ⟨t', v', ht', hv', hsame⟩ := execRead_congr
    (v := { withArgs (rewoundState u) count base with out := out }) hopened huf huo rfl rfl rfl
    (rewoundState_eq count base out hg hstream hsamples hlevels hsub)
  exact ⟨_, _, t', v', openAcceptsGoodHeader s n c r g hf ho hsize hheader hgood, hrewound, ht', hv', hsame⟩

end

end Sys2Proof.Claims

/-! ## Register accesses, NOP and SRST (spec/44_system.md R170 to R177) -/

namespace Sys2Proof.Machine

open Sys2Proof Sys2Proof.Claims

/-! ### A read, and an access that reaches no register -/

/-- What a read answers does not depend on the host's pending actions. -/
theorem readReg_popAction (s : State) (rest : List HostAction) (offset width : Nat) :
    (s.popAction rest).readReg offset width = s.readReg offset width := by
  have hvalue : ∀ r, (s.popAction rest).regValue r = s.regValue r := fun r => by cases r <;> rfl
  unfold State.readReg
  simp only [hvalue]

/-- With no code wanted, a step over a read logs the register's value. -/
theorem step_read {s : State} {offset width : Nat} {rest : List HostAction} (hp : s.port ≠ .wanted)
    (ha : s.actions = .read offset width :: rest) :
    step s = .next ((s.popAction rest).logRead (s.readReg offset width)) := by
  rw [step_host hp ha, ← readReg_popAction s rest]
  rfl

/-- The access is not performed (R177), or no register stands at its offset (R176). -/
def ReachesNoRegister (offset width : Nat) : Prop :=
  accessPerformed offset width = true → regAt offset = none

theorem reachesNoRegister_of_reserved {offset : Nat} (width : Nat) (h4 : offset % 4 = 0)
    (h : 0x54 ≤ offset ∧ offset ≤ 0x7C ∨ 0x100 ≤ offset) : ReachesNoRegister offset width :=
  fun _ => regAt_reserved offset h4 h

theorem reachesNoRegister_of_malformed {offset width : Nat} (h : width ≠ 32 ∨ offset % 4 ≠ 0) :
    ReachesNoRegister offset width := by
  intro hperformed
  obtain ⟨hw, h4⟩ : width = 32 ∧ offset % 4 = 0 := by simpa [accessPerformed] using hperformed
  exact absurd h (by simp [hw, h4])

theorem ReachesNoRegister.readReg_eq_zero {offset width : Nat} (h : ReachesNoRegister offset width) (s : State) :
    s.readReg offset width = 0 := by
  unfold State.readReg
  split
  · next hperformed => rw [h hperformed]
  · rfl

theorem ReachesNoRegister.hostWrite_ignored {offset width : Nat} (h : ReachesNoRegister offset width) (v : Word)
    (s : State) : hostWrite offset width v s = .next s := by
  unfold hostWrite
  split
  · next hperformed => rw [h hperformed]
  · rfl

theorem ReachesNoRegister.step_read {offset width : Nat} (h : ReachesNoRegister offset width) {s : State}
    {rest : List HostAction} (hp : s.port ≠ .wanted) (ha : s.actions = .read offset width :: rest) :
    step s = .next ((s.popAction rest).logRead 0) := by
  rw [Machine.step_read hp ha, h.readReg_eq_zero]

theorem ReachesNoRegister.step_write {offset width : Nat} (h : ReachesNoRegister offset width) {s : State} {v : Word}
    {rest : List HostAction} (hp : s.port ≠ .wanted) (ha : s.actions = .write offset width v :: rest) :
    step s = .next (s.popAction rest) :=
  (step_host hp ha).trans (h.hostWrite_ignored v _)

/-- Settles O11. -/
theorem hostReadHasNoSideEffect : Obligations.HostReadHasNoSideEffect :=
  fun _ _ _ _ hp ha => step_read hp ha

/-- Settles O15: no register stands at a reserved offset. -/
theorem reservedOffsetsHoldNothing : Obligations.ReservedOffsetsHoldNothing := by
  intro s offset v rest h4 hreserved hp
  have hnone : ReachesNoRegister offset 32 := reachesNoRegister_of_reserved 32 h4 hreserved
  exact ⟨hnone.step_read hp, hnone.step_write hp⟩

/-- Settles O16: the access is stopped before the register space is looked at. -/
theorem malformedAccessesAreNotPerformed : Obligations.MalformedAccessesAreNotPerformed := by
  intro s offset width v rest hmalformed hp
  have hnone : ReachesNoRegister offset width := reachesNoRegister_of_malformed hmalformed
  exact ⟨hnone.step_read hp, hnone.step_write hp⟩

/-! ### Geometry writes -/

theorem writeReg_levels (s : State) (v : Word) :
    s.writeReg .levels v = if s.status.opened = false ∧ s.status.fault = false
      then { s.clearInits with levels := BitVec.ofNat 12 v.toNat } else s := by
  simp only [← geometryWritable_iff, BitVec.ofNat_toNat]
  rfl

theorem writeReg_subblocks (s : State) (v : Word) :
    s.writeReg .subblocks v = if s.status.opened = false ∧ s.status.fault = false
      then { s.clearInits with subblocks := BitVec.ofNat 4 v.toNat } else s := by
  simp only [← geometryWritable_iff, BitVec.ofNat_toNat]
  rfl

/-- Settles O14: each clause is one write to a register other than CMD. -/
theorem geometryWritesAreGated : Obligations.GeometryWritesAreGated := by
  intro s v rest hp
  refine ⟨fun ha => ?_, fun ha => ?_⟩
  · rw [step_writeReg hp ha rfl rfl (by decide), writeReg_levels]
    rfl
  · rw [step_writeReg hp ha rfl rfl (by decide), writeReg_subblocks]
    rfl

/-! ### SRST and NOP -/

theorem exec_srst (s : State) : exec .srst s = .next s.resetBlock := by rfl

theorem exec_nop (s : State) : exec .nop s = .next s := by rfl

/-- Settles O19: SRST has no precondition, and its reset keeps the stream, so also its SIZE. -/
theorem srstResetsInEveryState : Obligations.SrstResetsInEveryState :=
  ⟨rfl, fun s => ⟨s.resetBlock, exec_srst s, resetValues_resetBlock s, s.resetBlock_stream,
    congrArg List.length s.resetBlock_stream⟩⟩

/-- Settles O30. -/
theorem nopChangesNothing : Obligations.NopChangesNothing := ⟨rfl, exec_nop⟩

end Sys2Proof.Machine

/-! ## Fatal-error entry and the commands' refusals (spec/60_exceptions.md R186 to R189) -/

namespace Sys2Proof.Machine

open Sys2Proof Sys2Proof.Claims Sys2Proof.Safety

/-! ### Fatal-error entry (R186) -/

/-- What fatal-error entry leaves satisfies R40(f), from any state. -/
theorem raise_faultStateClean (s : State) (e : FatalError) : FaultStateClean (s.raise e) where
  flags := ⟨rfl, rfl, rfl, rfl, rfl⟩
  code := fatalCode_ne_none e
  header := ⟨rfl, rfl, rfl, rfl, rfl⟩
  cursors := ⟨rfl, rfl, rfl, rfl⟩
  unpacker := ⟨rfl, rfl, rfl, rfl⟩
  scratch := rfl

/-- Settles O21: the entry's own updates, and the codes by the kind of the error. -/
theorem fatalErrorEntry : Obligations.FatalErrorEntry := by
  intro s e
  refine ⟨s.raise e, rfl, s.raise_arg0 e, s.raise_arg1 e, s.raise_bufidx e, s.raise_buf e,
    fun i => State.readSlot_congr i (s.raise_buf e) (s.raise_bufEpoch e), s.raise_stream e, s.raise_out e,
    s.raise_actions e, s.raise_readLog e, s.raise_port e, s.raise_result e, raise_faultStateClean s e, ?_, ?_, ?_, ?_⟩
  · rw [s.raise_status e]
  all_goals
    rw [s.raise_status e]
    cases e <;> rfl

/-! ### Commands in the FAULT state (R187) -/

/-- Settles O22: FAULT is the first guard of every command that has one, and a code's bits are no command word. -/
theorem faultStateRefusesCommands : Obligations.FaultStateRefusesCommands := by
  rintro i s ⟨w, hw⟩ hnop hsrst hf
  cases i with
  | nop => exact absurd rfl hnop
  | srst => exact absurd rfl hsrst
  | openStream | uinit | ureset | getblk | dinit | decode | refill | read | rewind => exact if_pos hf
  | _ => cases hw

/-! ### The guards after FAULT (R188), command by command -/

section
variable {s : State}

theorem execOpen_of_opened (hf : s.status.fault = false) (ho : s.status.opened = true) :
    exec .openStream s = .next (s.refuse .badState) := by
  change execOpen s = _
  simp [execOpen, hf, ho]

theorem execGetblk_of_not_uok (hf : s.status.fault = false) (hu : s.status.uok = false) :
    exec .getblk s = .next (s.refuse .badState) := by
  change execGetblk s = _
  simp [execGetblk, hf, hu]

theorem execDecode_of_not_dok (hf : s.status.fault = false) (hd : s.status.dok = false) :
    exec .decode s = .next (s.refuse .badState) := by
  change execDecode s = _
  simp [execDecode, hf, hd]

theorem execDecode_of_badArg (hf : s.status.fault = false) (hd : s.status.dok = true) (ha : ¬s.decodeArgOK = true) :
    exec .decode s = .next (s.refuse .badArg) := by
  change execDecode s = _
  simp [execDecode, hf, hd, ha]

theorem execRefill_of_closed (hf : s.status.fault = false) (ho : s.status.opened = false) :
    exec .refill s = .next (s.refuse .badState) := by
  change execRefill s = _
  simp [execRefill, hf, ho]

/-- REFILL of an open stream is refused unless the ready samples are used up and the stream has more. -/
theorem execRefill_of_not_due (hf : s.status.fault = false) (ho : s.status.opened = true)
    (h : s.samplesReady ≠ 0 ∨ s.samplesLeft = 0) : exec .refill s = .next (s.refuse .badState) := by
  have hguard : (s.samplesReady != 0 || s.samplesLeft == 0) = true := by simpa using h
  change execRefill s = _
  simp only [execRefill, hf, ho, hguard]
  rfl

theorem execRead_of_closed (hf : s.status.fault = false) (ho : s.status.opened = false) :
    exec .read s = .next (s.refuse .badState) := by
  change execRead s = _
  simp [execRead, hf, ho]

/-- DECODE's count is outside its range at either end (R189). -/
theorem not_decodeArgOK (h : s.arg0 = 0 ∨ 983040 < s.arg0.toNat * 2 ^ s.levels.toNat) : ¬s.decodeArgOK = true := by
  rw [decodeArgOK_iff]
  rintro ⟨hpos, hfit⟩
  rcases h with hzero | hlarge
  · rw [hzero] at hpos
    exact Nat.not_lt_zero _ hpos
  · exact absurd hfit (Nat.not_le.2 hlarge)

end

/-- Settles O23, one guard after FAULT for each clause. -/
theorem commandPreconditions : Obligations.CommandPreconditions := by
  intro s hf
  refine ⟨execOpen_of_opened hf, fun hu => ⟨?_, execGetblk_of_not_uok hf hu⟩, execDecode_of_not_dok hf,
    fun hd ha => execDecode_of_badArg hf hd (not_decodeArgOK ha),
    fun ho => ⟨execRefill_of_closed hf ho, execRead_of_closed hf ho, ?_⟩, execRefill_of_not_due hf⟩
  · rw [execUreset_of_noFault hf, if_neg (by simp [hu])]
    rfl
  · rw [execRewind_of_noFault hf, if_neg (by simp [ho])]
    rfl

end Sys2Proof.Machine

/-! ## Steps that wait, reset or stop (spec/70_reset_and_hazards.md R200, R211, R214) -/

namespace Sys2Proof.Machine

open Sys2Proof

/-- Settles O10. -/
theorem stepWithoutActionWaits : Obligations.StepWithoutActionWaits := fun _ => step_wait

/-! ### Reset from either side (R200) -/

/-- With no code wanted, a step over hardware reset is the block's reset; the action is used up. -/
theorem step_hardwareReset {s : State} {rest : List HostAction} (hp : s.port ≠ .wanted)
    (ha : s.actions = .hardwareReset :: rest) : step s = .next (s.popAction rest).resetBlock :=
  step_host hp ha

/-- Settles O20: hardware reset and SRST are the one operation `resetBlock`, which keeps the host's side. -/
theorem resetsLeaveTheHostsSide : Obligations.ResetsLeaveTheHostsSide := by
  intro s rest hp ha
  exact ⟨(s.popAction rest).resetBlock, step_hardwareReset hp ha, exec_srst _, State.resetBlock_out _,
    State.resetBlock_actions _, State.resetBlock_readLog _, State.resetBlock_stream _⟩

/-! ### Commands on a changed stream (R211) -/

theorem safeOnChangedStream_iff (i : Instr) : safeOnChangedStream i = true ↔ i = .nop ∨ i = .srst := by
  simp [safeOnChangedStream]

theorem writeCmd_of_decode {w : Word} {i : Instr} (h : decode (.command w) = .ok i) (s : State) :
    writeCmd w s = runCommand i s := by
  unfold writeCmd
  rw [h]

/-- With no code wanted, a step over a 32-bit write to CMD (R22) is that command's write. -/
theorem step_writeCmd {s : State} {w : Word} {rest : List HostAction} (hp : s.port ≠ .wanted)
    (ha : s.actions = .write 0 32 w :: rest) : step s = writeCmd w (s.popAction rest) :=
  step_host hp ha

theorem runCommand_of_changed {s : State} {i : Instr} (hc : s.session = .changed) (hnop : i ≠ .nop)
    (hsrst : i ≠ .srst) : runCommand i s = .refused .streamChangedWhileLive := by
  have hunsafe : ¬safeOnChangedStream i = true := fun h => ((safeOnChangedStream_iff i).1 h).elim hnop hsrst
  exact if_pos ⟨hc, by simpa using hunsafe⟩

/-- Settles O24: the change of the stream is looked at before the command's own guards. -/
theorem changedStreamStopsCommands : Obligations.ChangedStreamStopsCommands := by
  intro s rest w i hp ha hi hc hnop hsrst
  calc step s = writeCmd w (s.popAction rest) := step_writeCmd hp ha
    _ = runCommand i (s.popAction rest) := writeCmd_of_decode hi _
    _ = .refused .streamChangedWhileLive := runCommand_of_changed hc hnop hsrst

end Sys2Proof.Machine
